-- ==== Sys2Proof/Word.lean ====
section
/-! DEFINITION. The two word types of the machine: bytes and 16-bit words (00_scope.md R2). -/

namespace Sys2Proof

/-- An 8-bit value: a register, a byte of memory, an immediate byte (R2). Its arithmetic wraps at
256 (R5). -/
abbrev Byte := BitVec 8

/-- A 16-bit value: a register pair, SP, pc, an address, an immediate word (R2). Its arithmetic
wraps at 65536 (R5, R35). -/
abbrev Word := BitVec 16

end Sys2Proof
end

