-- ==== Sys2Proof/Machine/Bits.lean ====
section
/-! DEFINITION. Bit fields, extensions and byte order (00_scope.md R4, R6; 20_memory.md R32). -/

namespace Sys2Proof

/-- `v[lo+len-1:lo]` as a number; bit 0 is the least significant (R4). -/
def field (v : Byte) (lo len : Nat) : Nat := v.toNat / 2 ^ lo % 2 ^ len

/-- `v[3:0]` as a number. -/
def lowNibble (v : Byte) : Nat := field v 0 4

/-- The pair value that has `hi` in bits 15:8 and `lo` in bits 7:0 (R6, R13). -/
def joinBytes (hi lo : Byte) : Word := hi ++ lo

/-- `v[15:8]`. -/
def hiByte (v : Word) : Byte := v.extractLsb' 8 8

/-- `v[7:0]`. -/
def loByte (v : Word) : Byte := v.extractLsb' 0 8

/-- `zext_16(v)`: the high byte is zero (R6). -/
def zext16 (v : Byte) : Word := v.setWidth 16

/-- `sext_16(v)`: two's complement, `v` below 128 and `v + 0xFF00` from 128 on (R6, R58). -/
def sext16 (v : Byte) : Word := v.signExtend 16

/-- `0xFF00 + v`: the address of the short forms through C and LDH (R35, R82, R88). -/
def highPage (v : Byte) : Word := 0xFF00#16 + zext16 v

end Sys2Proof
end

