-- ==== Sys2Proof/Config.lean ====
section
/-! DEFINITION. What the spec leaves to an implementation or a platform (00_scope.md R3, the table
at the end of 92_eei_decisions.md), as plain data, and the one free value of the model. -/

namespace Sys2Proof.Config

/-- `ROT_A_Z` (D13, C9): what RLCA, RLA, RRCA and RRA do to Z. -/
inductive RotAZ where
  /-- Z is set when the result is zero, as the source prints (the default). -/
  | source
  /-- Z is reset, as the chip is known to do. -/
  | hardware
deriving DecidableEq, Repr

/-- `DI_DELAY` (D17, C10): how many instructions after DI interrupts are disabled. -/
inductive DiDelay where
  /-- 0: DI clears IME at once. -/
  | zero
  /-- 1: at the completion of the instruction after DI, as the source says (the default). -/
  | one
deriving DecidableEq, Repr

/-! ## A platform given as data

`MemMap` and `IntSource` are functions of a `PlatformState` (20_memory.md R37, 60_exceptions.md R222). State is
plain data, so a particular pair of functions is passed as the terms that compute it: `GivenMap` and
`GivenSource`, over platform cells of one byte each (entry 3). -/

/-- An operator of the numbers a given platform computes. -/
inductive NumOp where
  /-- The sum. -/
  | add
  /-- The difference, 0 where it would be negative. -/
  | sub
  /-- The product. -/
  | mul
  /-- The quotient, 0 for a divisor of 0. -/
  | div
  /-- The remainder. -/
  | mod
  /-- The bits both have. -/
  | and
  /-- The bits either has. -/
  | or
  /-- The bits only one has. -/
  | xor
  /-- 1 if they are equal, else 0. -/
  | eq
  /-- 1 if the first is less, else 0. -/
  | lt
deriving DecidableEq, Repr

/-- A number a given platform computes when it is accessed. -/
inductive Num where
  /-- This number. -/
  | lit (n : Nat)
  /-- The address accessed. -/
  | addr
  /-- The byte written; 0 for a read. -/
  | value
  /-- The platform cell of this index. -/
  | cell (index : Num)
  /-- The byte of the CPU's memory stored at this address. -/
  | stored (index : Num)
  /-- The operator applied to two numbers. -/
  | op (o : NumOp) (x y : Num)
  /-- `yes` unless `test` is 0, else `no`. -/
  | cond (test yes no : Num)
deriving DecidableEq, Repr

/-- One cell a given platform writes: `value` modulo 256 to the cell `index`. -/
structure CellWrite where
  /-- Which cell. -/
  index : Num
  /-- What it holds from now on. -/
  value : Num
deriving DecidableEq, Repr

/-- `MemMap` given as data (20_memory.md R37): what `read` answers, modulo 256, the cells `read` writes and the
cells `write` writes. All numbers are those of the platform as the access found it. -/
structure GivenMap where
  /-- The byte `read` answers. -/
  answer : Num
  /-- The `PlatformState` `read` leaves. -/
  onRead : List CellWrite
  /-- The `PlatformState` `write` leaves. -/
  onWrite : List CellWrite
deriving DecidableEq, Repr

/-- `IntSource` given as data (60_exceptions.md R222). -/
structure GivenSource where
  /-- `pending`, unless it is 0. -/
  pending : Num
  /-- The handler address `select` gives, modulo 65536. -/
  vector : Num
  /-- The `PlatformState` `select` leaves. -/
  onSelect : List CellWrite
  /-- `stop_wake`, unless it is 0. -/
  stopWake : Num
deriving DecidableEq, Repr

/-! ## The parameters -/

/-- What lies in a window of the address space (`MemMap`, 20_memory.md R36, R37). -/
inductive WindowKind where
  /-- Reads give the stored byte, writes store it. -/
  | ram
  /-- Reads give the stored byte, writes are ignored ("which ignore writes (ROM)"). -/
  | rom
  /-- Nothing is there ("which are absent"): reads give `value`, writes are ignored. -/
  | absent (value : Byte)
  /-- A device of which nothing is known: every access is logged, and a read gives whatever the device
  answers ("which addresses have side effects on read or write"). -/
  | device
  /-- What `map` computes: mirrors, banks, a known device, or with one window over all addresses any
  `MemMap` (entry 3). -/
  | given (map : GivenMap)
deriving DecidableEq, Repr

/-- A range of addresses, both ends included, and what lies there. -/
structure Window where
  /-- The lowest address. -/
  first : Nat
  /-- The highest address. -/
  last : Nat
  /-- What lies there. -/
  kind : WindowKind
deriving DecidableEq, Repr

/-- Which `IntSource` the CPU consults (60_exceptions.md R222). -/
inductive IntSource where
  /-- The platform presents its requests itself: any sequence of answers (the default; with nothing
  arriving it is never pending, D18). -/
  | external
  /-- The informative instance of R223: requests are the bits of IF (0xFF0F) enabled in IE (0xFFFF)
  (entries 7, 27). -/
  | gameBoy
  /-- What `source` computes, from memory and the platform cells. -/
  | given (source : GivenSource)
deriving DecidableEq, Repr

/-- The named parameters of R3. They are configuration (10_state.md R24): no step changes them. -/
structure Params where
  /-- `ROT_A_Z` (D13). -/
  rotAZ : RotAZ
  /-- `DI_DELAY` (D17). -/
  diDelay : DiDelay
  /-- `MemMap` (D8): the first window that holds an address decides; an address in no window is RAM. -/
  memMap : List Window
  /-- `IntSource` (D18). `STOP_WAKE` (D20) is the given source's, else the platform's `stopWake`. -/
  intSource : IntSource
deriving DecidableEq, Repr

/-- The defaults of 92_eei_decisions.md: `source`, 1, 65536 bytes of RAM, never pending. -/
def Params.default : Params :=
  { rotAZ := .source, diDelay := .one, memMap := [], intSource := .external }

/-- One access of the CPU to a device address (R36: the platform sees each exactly once). -/
inductive BusAccess where
  /-- `MemRead(addr, 1)` answered `value`. -/
  | read (addr : Word) (value : Byte)
  /-- `MemWrite(addr, 1, value)`. -/
  | write (addr : Word) (value : Byte)
deriving DecidableEq, Repr

/-- FREE VALUE (DESIGN CHOICE, entry 4): the byte a device answers when `addr` is read after the
accesses `history` (newest first). It stands for `MemMap.read` (R37), of which the spec says
nothing; it has no body, so nothing can be proved about its value. -/
opaque deviceByte (history : List BusAccess) (addr : Word) : Byte

end Sys2Proof.Config
end

