-- ==== Sys2Proof/Machine/State.lean ====
section
/-! DEFINITION. The state of the machine as plain data (10_state.md R24), the reasons a step can
stop, and the state after reset (10_state.md R25). -/

namespace Sys2Proof.Machine

/-- `mode` (R22): what HALT and STOP enter. -/
inductive Mode where
  | running | halted | stopped
deriving DecidableEq, Repr

/-- `ime_pending` (R21): a change of IME scheduled by EI or DI and not yet applied. -/
inductive ImePending where
  | none | enable | disable
deriving DecidableEq, Repr

/-- Memory: address and byte pairs in one canonical form, addresses rising, no byte that an unlisted
address reads as (entry 2; `Memory.wf`). -/
abbrev Memory := List Host.Cell

/-- One thing the platform does between two steps of the CPU (60_exceptions.md R222; 20_memory.md R39,
R44). -/
inductive PlatformEvent where
  /-- The enabled requests are from now on these, in the order `IntSource.select` serves them. -/
  | requests (vectors : List Word)
  /-- The answer of `IntSource.stop_wake` is from now on `on`. -/
  | stopWake (on : Bool)
  /-- Something other than the CPU stores `value` at `addr`. -/
  | store (addr : Word) (value : Byte)
  /-- The platform's own cell `index` holds `value` from now on. -/
  | cell (index : Nat) (value : Byte)
deriving DecidableEq, Repr

/-- The state of the platform (`PlatformState` of R37 and R222) as far as the CPU can see it. -/
structure Platform where
  /-- The handler addresses of the pending enabled requests, in the order they are served. -/
  requests : List Word
  /-- Whether the STOP wake event is being reported. -/
  stopWake : Bool
  /-- What the platform does before each coming step, the next step first. -/
  arrivals : List (List PlatformEvent)
  /-- The accesses made to device addresses, newest first (R36). -/
  bus : List Config.BusAccess
  /-- The cells of a given map or source (R37 "PlatformState"): index and byte, in the canonical form
  of memory without its bound on addresses (`Memory.canonical`). -/
  cells : Memory
deriving DecidableEq, Repr

/-- The state (R24). `f`, `af`, `bc`, `de`, `hl` are views of the fields (R12, R13). -/
structure State where
  /-- Register A, the accumulator (R10). -/
  a : Byte
  /-- Register B (R10). -/
  b : Byte
  /-- Register C (R10). -/
  c : Byte
  /-- Register D (R10). -/
  d : Byte
  /-- Register E (R10). -/
  e : Byte
  /-- Register H (R10). -/
  h : Byte
  /-- Register L (R10). -/
  l : Byte
  /-- Flag Z (R11), bit 7 of F (R12). -/
  fZ : Bool
  /-- Flag N (R11), bit 6 of F (R12). -/
  fN : Bool
  /-- Flag H (R11), bit 5 of F (R12). -/
  fH : Bool
  /-- Flag C (R11), bit 4 of F (R12). -/
  fC : Bool
  /-- The stack pointer (R14). -/
  sp : Word
  /-- The program counter (R15). -/
  pc : Word
  /-- The interrupt master enable bit (R17). -/
  ime : Bool
  /-- The scheduled change of IME (R21). -/
  imePending : ImePending
  /-- Running, halted or stopped (R22). -/
  mode : Mode
  /-- Memory (R20). -/
  mem : Memory
  /-- The platform (R23, R36, R222); the model's own representation (entries 3, 4, 5). -/
  platform : Platform
  /-- The configuration (R3, R24), which no step changes (entry 6). -/
  params : Config.Params
deriving DecidableEq, Repr

/-- Why a step faults. -/
inductive Fault where
  /-- `IllegalOpcode(byte)`: fetching one of the eleven unlisted bytes, or `10 xx` with `xx` other than
  `00` (30_encoding.md R57, R62). Raised by the fetch of a running step. Safe: the model stops where
  the source gives the machine no behaviour (D9). -/
  | illegalOpcode (byte : Byte)
deriving DecidableEq, Repr

/-- Why a step is refused. -/
inductive Refusal where
  /-- The instruction has no meaning in the model. Raised by no arm of `exec`: every row of the opcode
  table has its meaning. Safe: a refusal proves nothing about the hardware. -/
  | notModelled (mnemonic : String)
deriving DecidableEq, Repr

/-- The outcome of one instruction or step. -/
abbrev Result := Host.Outcome State Fault Refusal

/-- The platform at reset: nothing requested, no wake event, nothing arriving, every cell 0 (the defaults of D18 and
D20; entries 3, 5). -/
def Platform.quiet : Platform := { requests := [], stopWake := false, arrivals := [], bus := [], cells := [] }

/-- The state right after reset. `mode` and `imePending` are fixed by the spec (R25, R250). The
registers, flags, SP, pc and IME are unspecified by the source (U9); the values here are those R25's
table gives for the original Game Boy (PRESUMED, entry 1). Memory has nothing listed (entry 2). -/
def State.reset : State :=
  { a := 0x01, b := 0x00, c := 0x13, d := 0x00, e := 0xD8, h := 0x01, l := 0x4D
    fZ := true, fN := false, fH := true, fC := true
    sp := 0xFFFE, pc := 0x0100, ime := false, imePending := .none, mode := .running
    mem := [], platform := Platform.quiet, params := Config.Params.default }

end Sys2Proof.Machine
end

