-- ==== Sys2Proof/Syntax.lean ====
section
/-! DEFINITION. The syntax of the instruction set: operand classes (30_encoding.md R52 to R54, R59)
and one constructor of `Instr` per row of the opcode table (500 rows).

Names follow the source's spelling in lower case: an operand in parentheses, a byte of memory, has
an `m` before it (`ld_a_mhl` is LD A,(HL), `ld_mnn_sp` is LD (nn),SP); `n` is an unsigned immediate
byte (R55), `e8` a signed one (R58), `nn` an immediate word (R56). JP (HL) reads no memory (R192)
and is `jp_hl`. -/

namespace Sys2Proof

/-- An 8-bit operand, in the order of the code `r8` (R52): six registers, the byte of memory at HL
(code 6), and A. -/
inductive Opnd8 where
  | b | c | d | e | h | l | mhl | a
deriving DecidableEq, Repr

/-- A 16-bit operand of LD rr,nn, INC rr, DEC rr and ADD HL,rr, in the order of the code `rr` (R53). -/
inductive Pair where
  | bc | de | hl | sp
deriving DecidableEq, Repr

/-- A 16-bit operand of PUSH and POP, in the order of the code `rr` (R53). -/
inductive StackPair where
  | bc | de | hl | af
deriving DecidableEq, Repr

/-- A condition, in the order of the code `cc` (R54). -/
inductive Cond where
  | nz | z | nc | c
deriving DecidableEq, Repr

/-- An 8-bit ALU operation, in the order of the code `ooo` (R120). -/
inductive AluOp where
  | add | adc | sub | sbc | and | xor | or | cp
deriving DecidableEq, Repr

/-- A rotate, shift or swap behind the CB prefix, in the order of the code `yyy` (R59). -/
inductive ShiftOp where
  | rlc | rrc | rl | rr | sla | sra | swap | srl
deriving DecidableEq, Repr

/-- One of the four one-byte rotates of A, in the order of their opcodes 07, 0F, 17, 1F
(R160, R162, R161, R163). -/
inductive RotAOp where
  | rlca | rrca | rla | rra
deriving DecidableEq, Repr

/-- The instructions: one constructor per row of the opcode table, in the table's order. -/
inductive Instr where
  /-- `NOP`, `00`. -/
  | nop
  /-- `LD BC,nn`, `01`. -/
  | ld_bc_nn (nn : Word)
  /-- `LD (BC),A`, `02`. -/
  | ld_mbc_a
  /-- `INC BC`, `03`. -/
  | inc_bc
  /-- `INC B`, `04`. -/
  | inc_b
  /-- `DEC B`, `05`. -/
  | dec_b
  /-- `LD B,n`, `06`. -/
  | ld_b_n (n : Byte)
  /-- `RLCA`, `07`. -/
  | rlca
  /-- `LD (nn),SP`, `08`. -/
  | ld_mnn_sp (nn : Word)
  /-- `ADD HL,BC`, `09`. -/
  | add_hl_bc
  /-- `LD A,(BC)`, `0A`. -/
  | ld_a_mbc
  /-- `DEC BC`, `0B`. -/
  | dec_bc
  /-- `INC C`, `0C`. -/
  | inc_c
  /-- `DEC C`, `0D`. -/
  | dec_c
  /-- `LD C,n`, `0E`. -/
  | ld_c_n (n : Byte)
  /-- `RRCA`, `0F`. -/
  | rrca
  /-- `STOP`, `10 00`. -/
  | stop
  /-- `LD DE,nn`, `11`. -/
  | ld_de_nn (nn : Word)
  /-- `LD (DE),A`, `12`. -/
  | ld_mde_a
  /-- `INC DE`, `13`. -/
  | inc_de
  /-- `INC D`, `14`. -/
  | inc_d
  /-- `DEC D`, `15`. -/
  | dec_d
  /-- `LD D,n`, `16`. -/
  | ld_d_n (n : Byte)
  /-- `RLA`, `17`. -/
  | rla
  /-- `JR n`, `18`. -/
  | jr_e8 (e8 : Byte)
  /-- `ADD HL,DE`, `19`. -/
  | add_hl_de
  /-- `LD A,(DE)`, `1A`. -/
  | ld_a_mde
  /-- `DEC DE`, `1B`. -/
  | dec_de
  /-- `INC E`, `1C`. -/
  | inc_e
  /-- `DEC E`, `1D`. -/
  | dec_e
  /-- `LD E,n`, `1E`. -/
  | ld_e_n (n : Byte)
  /-- `RRA`, `1F`. -/
  | rra
  /-- `JR NZ,n`, `20`. -/
  | jr_nz_e8 (e8 : Byte)
  /-- `LD HL,nn`, `21`. -/
  | ld_hl_nn (nn : Word)
  /-- `LDI (HL),A`, `22`. -/
  | ldi_mhl_a
  /-- `INC HL`, `23`. -/
  | inc_hl
  /-- `INC H`, `24`. -/
  | inc_h
  /-- `DEC H`, `25`. -/
  | dec_h
  /-- `LD H,n`, `26`. -/
  | ld_h_n (n : Byte)
  /-- `DAA`, `27`. -/
  | daa
  /-- `JR Z,n`, `28`. -/
  | jr_z_e8 (e8 : Byte)
  /-- `ADD HL,HL`, `29`. -/
  | add_hl_hl
  /-- `LDI A,(HL)`, `2A`. -/
  | ldi_a_mhl
  /-- `DEC HL`, `2B`. -/
  | dec_hl
  /-- `INC L`, `2C`. -/
  | inc_l
  /-- `DEC L`, `2D`. -/
  | dec_l
  /-- `LD L,n`, `2E`. -/
  | ld_l_n (n : Byte)
  /-- `CPL`, `2F`. -/
  | cpl
  /-- `JR NC,n`, `30`. -/
  | jr_nc_e8 (e8 : Byte)
  /-- `LD SP,nn`, `31`. -/
  | ld_sp_nn (nn : Word)
  /-- `LDD (HL),A`, `32`. -/
  | ldd_mhl_a
  /-- `INC SP`, `33`. -/
  | inc_sp
  /-- `INC (HL)`, `34`. -/
  | inc_mhl
  /-- `DEC (HL)`, `35`. -/
  | dec_mhl
  /-- `LD (HL),n`, `36`. -/
  | ld_mhl_n (n : Byte)
  /-- `SCF`, `37`. -/
  | scf
  /-- `JR C,n`, `38`. -/
  | jr_c_e8 (e8 : Byte)
  /-- `ADD HL,SP`, `39`. -/
  | add_hl_sp
  /-- `LDD A,(HL)`, `3A`. -/
  | ldd_a_mhl
  /-- `DEC SP`, `3B`. -/
  | dec_sp
  /-- `INC A`, `3C`. -/
  | inc_a
  /-- `DEC A`, `3D`. -/
  | dec_a
  /-- `LD A,#`, `3E`. -/
  | ld_a_n (n : Byte)
  /-- `CCF`, `3F`. -/
  | ccf
  /-- `LD B,B`, `40`. -/
  | ld_b_b
  /-- `LD B,C`, `41`. -/
  | ld_b_c
  /-- `LD B,D`, `42`. -/
  | ld_b_d
  /-- `LD B,E`, `43`. -/
  | ld_b_e
  /-- `LD B,H`, `44`. -/
  | ld_b_h
  /-- `LD B,L`, `45`. -/
  | ld_b_l
  /-- `LD B,(HL)`, `46`. -/
  | ld_b_mhl
  /-- `LD B,A`, `47`. -/
  | ld_b_a
  /-- `LD C,B`, `48`. -/
  | ld_c_b
  /-- `LD C,C`, `49`. -/
  | ld_c_c
  /-- `LD C,D`, `4A`. -/
  | ld_c_d
  /-- `LD C,E`, `4B`. -/
  | ld_c_e
  /-- `LD C,H`, `4C`. -/
  | ld_c_h
  /-- `LD C,L`, `4D`. -/
  | ld_c_l
  /-- `LD C,(HL)`, `4E`. -/
  | ld_c_mhl
  /-- `LD C,A`, `4F`. -/
  | ld_c_a
  /-- `LD D,B`, `50`. -/
  | ld_d_b
  /-- `LD D,C`, `51`. -/
  | ld_d_c
  /-- `LD D,D`, `52`. -/
  | ld_d_d
  /-- `LD D,E`, `53`. -/
  | ld_d_e
  /-- `LD D,H`, `54`. -/
  | ld_d_h
  /-- `LD D,L`, `55`. -/
  | ld_d_l
  /-- `LD D,(HL)`, `56`. -/
  | ld_d_mhl
  /-- `LD D,A`, `57`. -/
  | ld_d_a
  /-- `LD E,B`, `58`. -/
  | ld_e_b
  /-- `LD E,C`, `59`. -/
  | ld_e_c
  /-- `LD E,D`, `5A`. -/
  | ld_e_d
  /-- `LD E,E`, `5B`. -/
  | ld_e_e
  /-- `LD E,H`, `5C`. -/
  | ld_e_h
  /-- `LD E,L`, `5D`. -/
  | ld_e_l
  /-- `LD E,(HL)`, `5E`. -/
  | ld_e_mhl
  /-- `LD E,A`, `5F`. -/
  | ld_e_a
  /-- `LD H,B`, `60`. -/
  | ld_h_b
  /-- `LD H,C`, `61`. -/
  | ld_h_c
  /-- `LD H,D`, `62`. -/
  | ld_h_d
  /-- `LD H,E`, `63`. -/
  | ld_h_e
  /-- `LD H,H`, `64`. -/
  | ld_h_h
  /-- `LD H,L`, `65`. -/
  | ld_h_l
  /-- `LD H,(HL)`, `66`. -/
  | ld_h_mhl
  /-- `LD H,A`, `67`. -/
  | ld_h_a
  /-- `LD L,B`, `68`. -/
  | ld_l_b
  /-- `LD L,C`, `69`. -/
  | ld_l_c
  /-- `LD L,D`, `6A`. -/
  | ld_l_d
  /-- `LD L,E`, `6B`. -/
  | ld_l_e
  /-- `LD L,H`, `6C`. -/
  | ld_l_h
  /-- `LD L,L`, `6D`. -/
  | ld_l_l
  /-- `LD L,(HL)`, `6E`. -/
  | ld_l_mhl
  /-- `LD L,A`, `6F`. -/
  | ld_l_a
  /-- `LD (HL),B`, `70`. -/
  | ld_mhl_b
  /-- `LD (HL),C`, `71`. -/
  | ld_mhl_c
  /-- `LD (HL),D`, `72`. -/
  | ld_mhl_d
  /-- `LD (HL),E`, `73`. -/
  | ld_mhl_e
  /-- `LD (HL),H`, `74`. -/
  | ld_mhl_h
  /-- `LD (HL),L`, `75`. -/
  | ld_mhl_l
  /-- `HALT`, `76`. -/
  | halt
  /-- `LD (HL),A`, `77`. -/
  | ld_mhl_a
  /-- `LD A,B`, `78`. -/
  | ld_a_b
  /-- `LD A,C`, `79`. -/
  | ld_a_c
  /-- `LD A,D`, `7A`. -/
  | ld_a_d
  /-- `LD A,E`, `7B`. -/
  | ld_a_e
  /-- `LD A,H`, `7C`. -/
  | ld_a_h
  /-- `LD A,L`, `7D`. -/
  | ld_a_l
  /-- `LD A,(HL)`, `7E`. -/
  | ld_a_mhl
  /-- `LD A,A`, `7F`. -/
  | ld_a_a
  /-- `ADD A,B`, `80`. -/
  | add_a_b
  /-- `ADD A,C`, `81`. -/
  | add_a_c
  /-- `ADD A,D`, `82`. -/
  | add_a_d
  /-- `ADD A,E`, `83`. -/
  | add_a_e
  /-- `ADD A,H`, `84`. -/
  | add_a_h
  /-- `ADD A,L`, `85`. -/
  | add_a_l
  /-- `ADD A,(HL)`, `86`. -/
  | add_a_mhl
  /-- `ADD A,A`, `87`. -/
  | add_a_a
  /-- `ADC A,B`, `88`. -/
  | adc_a_b
  /-- `ADC A,C`, `89`. -/
  | adc_a_c
  /-- `ADC A,D`, `8A`. -/
  | adc_a_d
  /-- `ADC A,E`, `8B`. -/
  | adc_a_e
  /-- `ADC A,H`, `8C`. -/
  | adc_a_h
  /-- `ADC A,L`, `8D`. -/
  | adc_a_l
  /-- `ADC A,(HL)`, `8E`. -/
  | adc_a_mhl
  /-- `ADC A,A`, `8F`. -/
  | adc_a_a
  /-- `SUB B`, `90`. -/
  | sub_b
  /-- `SUB C`, `91`. -/
  | sub_c
  /-- `SUB D`, `92`. -/
  | sub_d
  /-- `SUB E`, `93`. -/
  | sub_e
  /-- `SUB H`, `94`. -/
  | sub_h
  /-- `SUB L`, `95`. -/
  | sub_l
  /-- `SUB (HL)`, `96`. -/
  | sub_mhl
  /-- `SUB A`, `97`. -/
  | sub_a
  /-- `SBC A,B`, `98`. -/
  | sbc_a_b
  /-- `SBC A,C`, `99`. -/
  | sbc_a_c
  /-- `SBC A,D`, `9A`. -/
  | sbc_a_d
  /-- `SBC A,E`, `9B`. -/
  | sbc_a_e
  /-- `SBC A,H`, `9C`. -/
  | sbc_a_h
  /-- `SBC A,L`, `9D`. -/
  | sbc_a_l
  /-- `SBC A,(HL)`, `9E`. -/
  | sbc_a_mhl
  /-- `SBC A,A`, `9F`. -/
  | sbc_a_a
  /-- `AND B`, `A0`. -/
  | and_b
  /-- `AND C`, `A1`. -/
  | and_c
  /-- `AND D`, `A2`. -/
  | and_d
  /-- `AND E`, `A3`. -/
  | and_e
  /-- `AND H`, `A4`. -/
  | and_h
  /-- `AND L`, `A5`. -/
  | and_l
  /-- `AND (HL)`, `A6`. -/
  | and_mhl
  /-- `AND A`, `A7`. -/
  | and_a
  /-- `XOR B`, `A8`. -/
  | xor_b
  /-- `XOR C`, `A9`. -/
  | xor_c
  /-- `XOR D`, `AA`. -/
  | xor_d
  /-- `XOR E`, `AB`. -/
  | xor_e
  /-- `XOR H`, `AC`. -/
  | xor_h
  /-- `XOR L`, `AD`. -/
  | xor_l
  /-- `XOR (HL)`, `AE`. -/
  | xor_mhl
  /-- `XOR A`, `AF`. -/
  | xor_a
  /-- `OR B`, `B0`. -/
  | or_b
  /-- `OR C`, `B1`. -/
  | or_c
  /-- `OR D`, `B2`. -/
  | or_d
  /-- `OR E`, `B3`. -/
  | or_e
  /-- `OR H`, `B4`. -/
  | or_h
  /-- `OR L`, `B5`. -/
  | or_l
  /-- `OR (HL)`, `B6`. -/
  | or_mhl
  /-- `OR A`, `B7`. -/
  | or_a
  /-- `CP B`, `B8`. -/
  | cp_b
  /-- `CP C`, `B9`. -/
  | cp_c
  /-- `CP D`, `BA`. -/
  | cp_d
  /-- `CP E`, `BB`. -/
  | cp_e
  /-- `CP H`, `BC`. -/
  | cp_h
  /-- `CP L`, `BD`. -/
  | cp_l
  /-- `CP (HL)`, `BE`. -/
  | cp_mhl
  /-- `CP A`, `BF`. -/
  | cp_a
  /-- `RET NZ`, `C0`. -/
  | ret_nz
  /-- `POP BC`, `C1`. -/
  | pop_bc
  /-- `JP NZ,nn`, `C2`. -/
  | jp_nz_nn (nn : Word)
  /-- `JP nn`, `C3`. -/
  | jp_nn (nn : Word)
  /-- `CALL NZ,nn`, `C4`. -/
  | call_nz_nn (nn : Word)
  /-- `PUSH BC`, `C5`. -/
  | push_bc
  /-- `ADD A,#`, `C6`. -/
  | add_a_n (n : Byte)
  /-- `RST 00H`, `C7`. -/
  | rst_00
  /-- `RET Z`, `C8`. -/
  | ret_z
  /-- `RET`, `C9`. -/
  | ret
  /-- `JP Z,nn`, `CA`. -/
  | jp_z_nn (nn : Word)
  /-- `CALL Z,nn`, `CC`. -/
  | call_z_nn (nn : Word)
  /-- `CALL nn`, `CD`. -/
  | call_nn (nn : Word)
  /-- `ADC A,#`, `CE`. -/
  | adc_a_n (n : Byte)
  /-- `RST 08H`, `CF`. -/
  | rst_08
  /-- `RET NC`, `D0`. -/
  | ret_nc
  /-- `POP DE`, `D1`. -/
  | pop_de
  /-- `JP NC,nn`, `D2`. -/
  | jp_nc_nn (nn : Word)
  /-- `CALL NC,nn`, `D4`. -/
  | call_nc_nn (nn : Word)
  /-- `PUSH DE`, `D5`. -/
  | push_de
  /-- `SUB #`, `D6`. -/
  | sub_n (n : Byte)
  /-- `RST 10H`, `D7`. -/
  | rst_10
  /-- `RET C`, `D8`. -/
  | ret_c
  /-- `RETI`, `D9`. -/
  | reti
  /-- `JP C,nn`, `DA`. -/
  | jp_c_nn (nn : Word)
  /-- `CALL C,nn`, `DC`. -/
  | call_c_nn (nn : Word)
  /-- `SBC A,#`, `DE`. -/
  | sbc_a_n (n : Byte)
  /-- `RST 18H`, `DF`. -/
  | rst_18
  /-- `LDH (n),A`, `E0`. -/
  | ldh_mn_a (n : Byte)
  /-- `POP HL`, `E1`. -/
  | pop_hl
  /-- `LD (C),A`, `E2`. -/
  | ld_mc_a
  /-- `PUSH HL`, `E5`. -/
  | push_hl
  /-- `AND #`, `E6`. -/
  | and_n (n : Byte)
  /-- `RST 20H`, `E7`. -/
  | rst_20
  /-- `ADD SP,#`, `E8`. -/
  | add_sp_e8 (e8 : Byte)
  /-- `JP (HL)`, `E9`. -/
  | jp_hl
  /-- `LD (nn),A`, `EA`. -/
  | ld_mnn_a (nn : Word)
  /-- `XOR #`, `EE`. -/
  | xor_n (n : Byte)
  /-- `RST 28H`, `EF`. -/
  | rst_28
  /-- `LDH A,(n)`, `F0`. -/
  | ldh_a_mn (n : Byte)
  /-- `POP AF`, `F1`. -/
  | pop_af
  /-- `LD A,(C)`, `F2`. -/
  | ld_a_mc
  /-- `DI`, `F3`. -/
  | di
  /-- `PUSH AF`, `F5`. -/
  | push_af
  /-- `OR #`, `F6`. -/
  | or_n (n : Byte)
  /-- `RST 30H`, `F7`. -/
  | rst_30
  /-- `LDHL SP,n`, `F8`. -/
  | ldhl_sp_e8 (e8 : Byte)
  /-- `LD SP,HL`, `F9`. -/
  | ld_sp_hl
  /-- `LD A,(nn)`, `FA`. -/
  | ld_a_mnn (nn : Word)
  /-- `EI`, `FB`. -/
  | ei
  /-- `CP #`, `FE`. -/
  | cp_n (n : Byte)
  /-- `RST 38H`, `FF`. -/
  | rst_38
  /-- `RLC B`, `CB 00`. -/
  | rlc_b
  /-- `RLC C`, `CB 01`. -/
  | rlc_c
  /-- `RLC D`, `CB 02`. -/
  | rlc_d
  /-- `RLC E`, `CB 03`. -/
  | rlc_e
  /-- `RLC H`, `CB 04`. -/
  | rlc_h
  /-- `RLC L`, `CB 05`. -/
  | rlc_l
  /-- `RLC (HL)`, `CB 06`. -/
  | rlc_mhl
  /-- `RLC A`, `CB 07`. -/
  | rlc_a
  /-- `RRC B`, `CB 08`. -/
  | rrc_b
  /-- `RRC C`, `CB 09`. -/
  | rrc_c
  /-- `RRC D`, `CB 0A`. -/
  | rrc_d
  /-- `RRC E`, `CB 0B`. -/
  | rrc_e
  /-- `RRC H`, `CB 0C`. -/
  | rrc_h
  /-- `RRC L`, `CB 0D`. -/
  | rrc_l
  /-- `RRC (HL)`, `CB 0E`. -/
  | rrc_mhl
  /-- `RRC A`, `CB 0F`. -/
  | rrc_a
  /-- `RL B`, `CB 10`. -/
  | rl_b
  /-- `RL C`, `CB 11`. -/
  | rl_c
  /-- `RL D`, `CB 12`. -/
  | rl_d
  /-- `RL E`, `CB 13`. -/
  | rl_e
  /-- `RL H`, `CB 14`. -/
  | rl_h
  /-- `RL L`, `CB 15`. -/
  | rl_l
  /-- `RL (HL)`, `CB 16`. -/
  | rl_mhl
  /-- `RL A`, `CB 17`. -/
  | rl_a
  /-- `RR B`, `CB 18`. -/
  | rr_b
  /-- `RR C`, `CB 19`. -/
  | rr_c
  /-- `RR D`, `CB 1A`. -/
  | rr_d
  /-- `RR E`, `CB 1B`. -/
  | rr_e
  /-- `RR H`, `CB 1C`. -/
  | rr_h
  /-- `RR L`, `CB 1D`. -/
  | rr_l
  /-- `RR (HL)`, `CB 1E`. -/
  | rr_mhl
  /-- `RR A`, `CB 1F`. -/
  | rr_a
  /-- `SLA B`, `CB 20`. -/
  | sla_b
  /-- `SLA C`, `CB 21`. -/
  | sla_c
  /-- `SLA D`, `CB 22`. -/
  | sla_d
  /-- `SLA E`, `CB 23`. -/
  | sla_e
  /-- `SLA H`, `CB 24`. -/
  | sla_h
  /-- `SLA L`, `CB 25`. -/
  | sla_l
  /-- `SLA (HL)`, `CB 26`. -/
  | sla_mhl
  /-- `SLA A`, `CB 27`. -/
  | sla_a
  /-- `SRA B`, `CB 28`. -/
  | sra_b
  /-- `SRA C`, `CB 29`. -/
  | sra_c
  /-- `SRA D`, `CB 2A`. -/
  | sra_d
  /-- `SRA E`, `CB 2B`. -/
  | sra_e
  /-- `SRA H`, `CB 2C`. -/
  | sra_h
  /-- `SRA L`, `CB 2D`. -/
  | sra_l
  /-- `SRA (HL)`, `CB 2E`. -/
  | sra_mhl
  /-- `SRA A`, `CB 2F`. -/
  | sra_a
  /-- `SWAP B`, `CB 30`. -/
  | swap_b
  /-- `SWAP C`, `CB 31`. -/
  | swap_c
  /-- `SWAP D`, `CB 32`. -/
  | swap_d
  /-- `SWAP E`, `CB 33`. -/
  | swap_e
  /-- `SWAP H`, `CB 34`. -/
  | swap_h
  /-- `SWAP L`, `CB 35`. -/
  | swap_l
  /-- `SWAP (HL)`, `CB 36`. -/
  | swap_mhl
  /-- `SWAP A`, `CB 37`. -/
  | swap_a
  /-- `SRL B`, `CB 38`. -/
  | srl_b
  /-- `SRL C`, `CB 39`. -/
  | srl_c
  /-- `SRL D`, `CB 3A`. -/
  | srl_d
  /-- `SRL E`, `CB 3B`. -/
  | srl_e
  /-- `SRL H`, `CB 3C`. -/
  | srl_h
  /-- `SRL L`, `CB 3D`. -/
  | srl_l
  /-- `SRL (HL)`, `CB 3E`. -/
  | srl_mhl
  /-- `SRL A`, `CB 3F`. -/
  | srl_a
  /-- `BIT 0,B`, `CB 40`. -/
  | bit_0_b
  /-- `BIT 0,C`, `CB 41`. -/
  | bit_0_c
  /-- `BIT 0,D`, `CB 42`. -/
  | bit_0_d
  /-- `BIT 0,E`, `CB 43`. -/
  | bit_0_e
  /-- `BIT 0,H`, `CB 44`. -/
  | bit_0_h
  /-- `BIT 0,L`, `CB 45`. -/
  | bit_0_l
  /-- `BIT 0,(HL)`, `CB 46`. -/
  | bit_0_mhl
  /-- `BIT 0,A`, `CB 47`. -/
  | bit_0_a
  /-- `BIT 1,B`, `CB 48`. -/
  | bit_1_b
  /-- `BIT 1,C`, `CB 49`. -/
  | bit_1_c
  /-- `BIT 1,D`, `CB 4A`. -/
  | bit_1_d
  /-- `BIT 1,E`, `CB 4B`. -/
  | bit_1_e
  /-- `BIT 1,H`, `CB 4C`. -/
  | bit_1_h
  /-- `BIT 1,L`, `CB 4D`. -/
  | bit_1_l
  /-- `BIT 1,(HL)`, `CB 4E`. -/
  | bit_1_mhl
  /-- `BIT 1,A`, `CB 4F`. -/
  | bit_1_a
  /-- `BIT 2,B`, `CB 50`. -/
  | bit_2_b
  /-- `BIT 2,C`, `CB 51`. -/
  | bit_2_c
  /-- `BIT 2,D`, `CB 52`. -/
  | bit_2_d
  /-- `BIT 2,E`, `CB 53`. -/
  | bit_2_e
  /-- `BIT 2,H`, `CB 54`. -/
  | bit_2_h
  /-- `BIT 2,L`, `CB 55`. -/
  | bit_2_l
  /-- `BIT 2,(HL)`, `CB 56`. -/
  | bit_2_mhl
  /-- `BIT 2,A`, `CB 57`. -/
  | bit_2_a
  /-- `BIT 3,B`, `CB 58`. -/
  | bit_3_b
  /-- `BIT 3,C`, `CB 59`. -/
  | bit_3_c
  /-- `BIT 3,D`, `CB 5A`. -/
  | bit_3_d
  /-- `BIT 3,E`, `CB 5B`. -/
  | bit_3_e
  /-- `BIT 3,H`, `CB 5C`. -/
  | bit_3_h
  /-- `BIT 3,L`, `CB 5D`. -/
  | bit_3_l
  /-- `BIT 3,(HL)`, `CB 5E`. -/
  | bit_3_mhl
  /-- `BIT 3,A`, `CB 5F`. -/
  | bit_3_a
  /-- `BIT 4,B`, `CB 60`. -/
  | bit_4_b
  /-- `BIT 4,C`, `CB 61`. -/
  | bit_4_c
  /-- `BIT 4,D`, `CB 62`. -/
  | bit_4_d
  /-- `BIT 4,E`, `CB 63`. -/
  | bit_4_e
  /-- `BIT 4,H`, `CB 64`. -/
  | bit_4_h
  /-- `BIT 4,L`, `CB 65`. -/
  | bit_4_l
  /-- `BIT 4,(HL)`, `CB 66`. -/
  | bit_4_mhl
  /-- `BIT 4,A`, `CB 67`. -/
  | bit_4_a
  /-- `BIT 5,B`, `CB 68`. -/
  | bit_5_b
  /-- `BIT 5,C`, `CB 69`. -/
  | bit_5_c
  /-- `BIT 5,D`, `CB 6A`. -/
  | bit_5_d
  /-- `BIT 5,E`, `CB 6B`. -/
  | bit_5_e
  /-- `BIT 5,H`, `CB 6C`. -/
  | bit_5_h
  /-- `BIT 5,L`, `CB 6D`. -/
  | bit_5_l
  /-- `BIT 5,(HL)`, `CB 6E`. -/
  | bit_5_mhl
  /-- `BIT 5,A`, `CB 6F`. -/
  | bit_5_a
  /-- `BIT 6,B`, `CB 70`. -/
  | bit_6_b
  /-- `BIT 6,C`, `CB 71`. -/
  | bit_6_c
  /-- `BIT 6,D`, `CB 72`. -/
  | bit_6_d
  /-- `BIT 6,E`, `CB 73`. -/
  | bit_6_e
  /-- `BIT 6,H`, `CB 74`. -/
  | bit_6_h
  /-- `BIT 6,L`, `CB 75`. -/
  | bit_6_l
  /-- `BIT 6,(HL)`, `CB 76`. -/
  | bit_6_mhl
  /-- `BIT 6,A`, `CB 77`. -/
  | bit_6_a
  /-- `BIT 7,B`, `CB 78`. -/
  | bit_7_b
  /-- `BIT 7,C`, `CB 79`. -/
  | bit_7_c
  /-- `BIT 7,D`, `CB 7A`. -/
  | bit_7_d
  /-- `BIT 7,E`, `CB 7B`. -/
  | bit_7_e
  /-- `BIT 7,H`, `CB 7C`. -/
  | bit_7_h
  /-- `BIT 7,L`, `CB 7D`. -/
  | bit_7_l
  /-- `BIT 7,(HL)`, `CB 7E`. -/
  | bit_7_mhl
  /-- `BIT 7,A`, `CB 7F`. -/
  | bit_7_a
  /-- `RES 0,B`, `CB 80`. -/
  | res_0_b
  /-- `RES 0,C`, `CB 81`. -/
  | res_0_c
  /-- `RES 0,D`, `CB 82`. -/
  | res_0_d
  /-- `RES 0,E`, `CB 83`. -/
  | res_0_e
  /-- `RES 0,H`, `CB 84`. -/
  | res_0_h
  /-- `RES 0,L`, `CB 85`. -/
  | res_0_l
  /-- `RES 0,(HL)`, `CB 86`. -/
  | res_0_mhl
  /-- `RES 0,A`, `CB 87`. -/
  | res_0_a
  /-- `RES 1,B`, `CB 88`. -/
  | res_1_b
  /-- `RES 1,C`, `CB 89`. -/
  | res_1_c
  /-- `RES 1,D`, `CB 8A`. -/
  | res_1_d
  /-- `RES 1,E`, `CB 8B`. -/
  | res_1_e
  /-- `RES 1,H`, `CB 8C`. -/
  | res_1_h
  /-- `RES 1,L`, `CB 8D`. -/
  | res_1_l
  /-- `RES 1,(HL)`, `CB 8E`. -/
  | res_1_mhl
  /-- `RES 1,A`, `CB 8F`. -/
  | res_1_a
  /-- `RES 2,B`, `CB 90`. -/
  | res_2_b
  /-- `RES 2,C`, `CB 91`. -/
  | res_2_c
  /-- `RES 2,D`, `CB 92`. -/
  | res_2_d
  /-- `RES 2,E`, `CB 93`. -/
  | res_2_e
  /-- `RES 2,H`, `CB 94`. -/
  | res_2_h
  /-- `RES 2,L`, `CB 95`. -/
  | res_2_l
  /-- `RES 2,(HL)`, `CB 96`. -/
  | res_2_mhl
  /-- `RES 2,A`, `CB 97`. -/
  | res_2_a
  /-- `RES 3,B`, `CB 98`. -/
  | res_3_b
  /-- `RES 3,C`, `CB 99`. -/
  | res_3_c
  /-- `RES 3,D`, `CB 9A`. -/
  | res_3_d
  /-- `RES 3,E`, `CB 9B`. -/
  | res_3_e
  /-- `RES 3,H`, `CB 9C`. -/
  | res_3_h
  /-- `RES 3,L`, `CB 9D`. -/
  | res_3_l
  /-- `RES 3,(HL)`, `CB 9E`. -/
  | res_3_mhl
  /-- `RES 3,A`, `CB 9F`. -/
  | res_3_a
  /-- `RES 4,B`, `CB A0`. -/
  | res_4_b
  /-- `RES 4,C`, `CB A1`. -/
  | res_4_c
  /-- `RES 4,D`, `CB A2`. -/
  | res_4_d
  /-- `RES 4,E`, `CB A3`. -/
  | res_4_e
  /-- `RES 4,H`, `CB A4`. -/
  | res_4_h
  /-- `RES 4,L`, `CB A5`. -/
  | res_4_l
  /-- `RES 4,(HL)`, `CB A6`. -/
  | res_4_mhl
  /-- `RES 4,A`, `CB A7`. -/
  | res_4_a
  /-- `RES 5,B`, `CB A8`. -/
  | res_5_b
  /-- `RES 5,C`, `CB A9`. -/
  | res_5_c
  /-- `RES 5,D`, `CB AA`. -/
  | res_5_d
  /-- `RES 5,E`, `CB AB`. -/
  | res_5_e
  /-- `RES 5,H`, `CB AC`. -/
  | res_5_h
  /-- `RES 5,L`, `CB AD`. -/
  | res_5_l
  /-- `RES 5,(HL)`, `CB AE`. -/
  | res_5_mhl
  /-- `RES 5,A`, `CB AF`. -/
  | res_5_a
  /-- `RES 6,B`, `CB B0`. -/
  | res_6_b
  /-- `RES 6,C`, `CB B1`. -/
  | res_6_c
  /-- `RES 6,D`, `CB B2`. -/
  | res_6_d
  /-- `RES 6,E`, `CB B3`. -/
  | res_6_e
  /-- `RES 6,H`, `CB B4`. -/
  | res_6_h
  /-- `RES 6,L`, `CB B5`. -/
  | res_6_l
  /-- `RES 6,(HL)`, `CB B6`. -/
  | res_6_mhl
  /-- `RES 6,A`, `CB B7`. -/
  | res_6_a
  /-- `RES 7,B`, `CB B8`. -/
  | res_7_b
  /-- `RES 7,C`, `CB B9`. -/
  | res_7_c
  /-- `RES 7,D`, `CB BA`. -/
  | res_7_d
  /-- `RES 7,E`, `CB BB`. -/
  | res_7_e
  /-- `RES 7,H`, `CB BC`. -/
  | res_7_h
  /-- `RES 7,L`, `CB BD`. -/
  | res_7_l
  /-- `RES 7,(HL)`, `CB BE`. -/
  | res_7_mhl
  /-- `RES 7,A`, `CB BF`. -/
  | res_7_a
  /-- `SET 0,B`, `CB C0`. -/
  | set_0_b
  /-- `SET 0,C`, `CB C1`. -/
  | set_0_c
  /-- `SET 0,D`, `CB C2`. -/
  | set_0_d
  /-- `SET 0,E`, `CB C3`. -/
  | set_0_e
  /-- `SET 0,H`, `CB C4`. -/
  | set_0_h
  /-- `SET 0,L`, `CB C5`. -/
  | set_0_l
  /-- `SET 0,(HL)`, `CB C6`. -/
  | set_0_mhl
  /-- `SET 0,A`, `CB C7`. -/
  | set_0_a
  /-- `SET 1,B`, `CB C8`. -/
  | set_1_b
  /-- `SET 1,C`, `CB C9`. -/
  | set_1_c
  /-- `SET 1,D`, `CB CA`. -/
  | set_1_d
  /-- `SET 1,E`, `CB CB`. -/
  | set_1_e
  /-- `SET 1,H`, `CB CC`. -/
  | set_1_h
  /-- `SET 1,L`, `CB CD`. -/
  | set_1_l
  /-- `SET 1,(HL)`, `CB CE`. -/
  | set_1_mhl
  /-- `SET 1,A`, `CB CF`. -/
  | set_1_a
  /-- `SET 2,B`, `CB D0`. -/
  | set_2_b
  /-- `SET 2,C`, `CB D1`. -/
  | set_2_c
  /-- `SET 2,D`, `CB D2`. -/
  | set_2_d
  /-- `SET 2,E`, `CB D3`. -/
  | set_2_e
  /-- `SET 2,H`, `CB D4`. -/
  | set_2_h
  /-- `SET 2,L`, `CB D5`. -/
  | set_2_l
  /-- `SET 2,(HL)`, `CB D6`. -/
  | set_2_mhl
  /-- `SET 2,A`, `CB D7`. -/
  | set_2_a
  /-- `SET 3,B`, `CB D8`. -/
  | set_3_b
  /-- `SET 3,C`, `CB D9`. -/
  | set_3_c
  /-- `SET 3,D`, `CB DA`. -/
  | set_3_d
  /-- `SET 3,E`, `CB DB`. -/
  | set_3_e
  /-- `SET 3,H`, `CB DC`. -/
  | set_3_h
  /-- `SET 3,L`, `CB DD`. -/
  | set_3_l
  /-- `SET 3,(HL)`, `CB DE`. -/
  | set_3_mhl
  /-- `SET 3,A`, `CB DF`. -/
  | set_3_a
  /-- `SET 4,B`, `CB E0`. -/
  | set_4_b
  /-- `SET 4,C`, `CB E1`. -/
  | set_4_c
  /-- `SET 4,D`, `CB E2`. -/
  | set_4_d
  /-- `SET 4,E`, `CB E3`. -/
  | set_4_e
  /-- `SET 4,H`, `CB E4`. -/
  | set_4_h
  /-- `SET 4,L`, `CB E5`. -/
  | set_4_l
  /-- `SET 4,(HL)`, `CB E6`. -/
  | set_4_mhl
  /-- `SET 4,A`, `CB E7`. -/
  | set_4_a
  /-- `SET 5,B`, `CB E8`. -/
  | set_5_b
  /-- `SET 5,C`, `CB E9`. -/
  | set_5_c
  /-- `SET 5,D`, `CB EA`. -/
  | set_5_d
  /-- `SET 5,E`, `CB EB`. -/
  | set_5_e
  /-- `SET 5,H`, `CB EC`. -/
  | set_5_h
  /-- `SET 5,L`, `CB ED`. -/
  | set_5_l
  /-- `SET 5,(HL)`, `CB EE`. -/
  | set_5_mhl
  /-- `SET 5,A`, `CB EF`. -/
  | set_5_a
  /-- `SET 6,B`, `CB F0`. -/
  | set_6_b
  /-- `SET 6,C`, `CB F1`. -/
  | set_6_c
  /-- `SET 6,D`, `CB F2`. -/
  | set_6_d
  /-- `SET 6,E`, `CB F3`. -/
  | set_6_e
  /-- `SET 6,H`, `CB F4`. -/
  | set_6_h
  /-- `SET 6,L`, `CB F5`. -/
  | set_6_l
  /-- `SET 6,(HL)`, `CB F6`. -/
  | set_6_mhl
  /-- `SET 6,A`, `CB F7`. -/
  | set_6_a
  /-- `SET 7,B`, `CB F8`. -/
  | set_7_b
  /-- `SET 7,C`, `CB F9`. -/
  | set_7_c
  /-- `SET 7,D`, `CB FA`. -/
  | set_7_d
  /-- `SET 7,E`, `CB FB`. -/
  | set_7_e
  /-- `SET 7,H`, `CB FC`. -/
  | set_7_h
  /-- `SET 7,L`, `CB FD`. -/
  | set_7_l
  /-- `SET 7,(HL)`, `CB FE`. -/
  | set_7_mhl
  /-- `SET 7,A`, `CB FF`. -/
  | set_7_a
deriving DecidableEq, Repr

end Sys2Proof
end

