-- ==== Sys2Proof/Machine/Flags.lean ====
section
/-! DEFINITION. Every arithmetic and flag computation of the spec, as functions of values: the 8-bit
ALU (42_alu8.md), 16-bit arithmetic (43_alu16.md, 41_loads16.md R102), DAA and SWAP (44_misc.md),
rotates and shifts (45_rotates_shifts.md), bit operations (46_bit.md), and the flag register F
(10_state.md R12). -/

namespace Sys2Proof.Machine

/-- The four flags as a value. -/
structure Flags where
  /-- Z. -/
  z : Bool
  /-- N. -/
  n : Bool
  /-- H. -/
  h : Bool
  /-- C. -/
  c : Bool
deriving DecidableEq, Repr

/-- The flag register (R12): `F = fZ*128 + fN*64 + fH*32 + fC*16`. -/
def Flags.toByte (f : Flags) : Byte :=
  BitVec.ofNat 8 (f.z.toNat * 128 + f.n.toNat * 64 + f.h.toNat * 32 + f.c.toNat * 16)

/-- The flags of a byte written to F (R12): bits 7 to 4; bits 3:0 are dropped. -/
def Flags.ofByte (v : Byte) : Flags :=
  { z := v.getLsbD 7, n := v.getLsbD 6, h := v.getLsbD 5, c := v.getLsbD 4 }

/-! ## 8-bit ALU -/

/-- `A + v + c` (R110 with `c` = 0, R111). -/
def addWith (a v : Byte) (c : Bool) : Byte × Flags :=
  let sum := a.toNat + v.toNat + c.toNat
  let r := BitVec.ofNat 8 sum
  (r, { z := decide (r = 0), n := false, h := decide (lowNibble a + lowNibble v + c.toNat > 0x0F), c := decide (sum > 0xFF) })

/-- `A - v - c` (R112 with `c` = 0, R113); H and C are set on borrow (R121, C1). -/
def subWith (a v : Byte) (c : Bool) : Byte × Flags :=
  let r := a - v - BitVec.ofNat 8 c.toNat
  (r, { z := decide (r = 0), n := true, h := decide (lowNibble a < lowNibble v + c.toNat), c := decide (a.toNat < v.toNat + c.toNat) })

/-- The flags of AND, OR and XOR: Z from the result, N and C reset, H as given (R114 to R116). -/
def logicFlags (r : Byte) (h : Bool) : Flags := { z := decide (r = 0), n := false, h := h, c := false }

/-- The new A and flags of the ALU operation `op` on A and the operand value `v`; `c` is the incoming
carry (R110 to R117). CP leaves A as it is. -/
def aluResult (op : AluOp) (a v : Byte) (c : Bool) : Byte × Flags :=
  match op with
  | .add => addWith a v false
  | .adc => addWith a v c
  | .sub => subWith a v false
  | .sbc => subWith a v c
  | .and => (a &&& v, logicFlags (a &&& v) true)
  | .xor => (a ^^^ v, logicFlags (a ^^^ v) false)
  | .or => (a ||| v, logicFlags (a ||| v) false)
  | .cp => (a, (subWith a v false).2)

/-- 8-bit INC (R118): C keeps its value. -/
def incResult (v : Byte) (c : Bool) : Byte × Flags :=
  (v + 1, { z := decide (v + 1 = 0), n := false, h := decide (lowNibble v = 0x0F), c := c })

/-- 8-bit DEC (R119): C keeps its value; H is set on borrow from bit 4 (R121). -/
def decResult (v : Byte) (c : Bool) : Byte × Flags :=
  (v - 1, { z := decide (v - 1 = 0), n := true, h := decide (lowNibble v = 0), c := c })

/-! ## 16-bit arithmetic -/

/-- ADD HL,rr (R130): Z keeps its value, H is the carry from bit 11, C from bit 15. -/
def addHlResult (x y : Word) (z : Bool) : Word × Flags :=
  (x + y, { z := z, n := false, h := decide (x.toNat % 4096 + y.toNat % 4096 > 0x0FFF), c := decide (x.toNat + y.toNat > 0xFFFF) })

/-- SP plus a signed byte, as ADD SP,n and LDHL SP,n compute it (R131, R102): Z and N reset, H and C
the carries out of bit 3 and bit 7 of the low byte of SP plus the unsigned byte (D14). -/
def addSpResult (sp : Word) (e8 : Byte) : Word × Flags :=
  (sp + sext16 e8,
    { z := false, n := false, h := decide (lowNibble (loByte sp) + lowNibble e8 > 0x0F), c := decide ((loByte sp).toNat + e8.toNat > 0xFF) })

/-! ## DAA -/

/-- DAA after an addition (R141, `fN == 0`): the adjusted A and the new C. -/
def daaAfterAdd (a : Byte) (h c : Bool) : Byte × Bool :=
  let high : Bool := c || decide (a.toNat > 0x99)
  let a1 := if high then a + 0x60 else a
  let a2 := if h || decide (lowNibble a > 0x09) then a1 + 0x06 else a1
  (a2, high)

/-- DAA after a subtraction (R141, `fN == 1`): the adjusted A; C keeps its value. -/
def daaAfterSub (a : Byte) (h c : Bool) : Byte × Bool :=
  let a1 := if c then a - 0x60 else a
  let a2 := if h then a1 - 0x06 else a1
  (a2, c)

/-- DAA (R141): the new A, Z from it, N unchanged, H reset. -/
def daaResult (a : Byte) (f : Flags) : Byte × Flags :=
  let r := if f.n then daaAfterSub a f.h f.c else daaAfterAdd a f.h f.c
  (r.1, { z := decide (r.1 = 0), n := f.n, h := false, c := r.2 })

/-! ## Rotates, shifts, SWAP -/

/-- The result byte of a CB rotate, shift or swap and the bit that leaves it (R164 to R170; R140, where C
is reset); `c` is the incoming carry. -/
def shiftResult (op : ShiftOp) (v : Byte) (c : Bool) : Byte × Bool :=
  match op with
  | .rlc => (BitVec.ofNat 8 (field v 0 7 * 2 + (v.getLsbD 7).toNat), v.getLsbD 7)
  | .rrc => (BitVec.ofNat 8 (field v 1 7 + (v.getLsbD 0).toNat * 128), v.getLsbD 0)
  | .rl => (BitVec.ofNat 8 (field v 0 7 * 2 + c.toNat), v.getLsbD 7)
  | .rr => (BitVec.ofNat 8 (field v 1 7 + c.toNat * 128), v.getLsbD 0)
  | .sla => (BitVec.ofNat 8 (field v 0 7 * 2), v.getLsbD 7)
  | .sra => (BitVec.ofNat 8 ((v.getLsbD 7).toNat * 128 + field v 1 7), v.getLsbD 0)
  | .swap => (BitVec.ofNat 8 (field v 0 4 * 16 + field v 4 4), false)
  | .srl => (BitVec.ofNat 8 (field v 1 7), v.getLsbD 0)

/-- The flags of a CB rotate, shift or swap: Z from the result, N and H reset, C the bit that left. -/
def shiftFlags (r : Byte) (c : Bool) : Flags := { z := decide (r = 0), n := false, h := false, c := c }

/-- The CB operation each one-byte rotate of A shares its result and carry with (R160 to R163). -/
def rotAShift (op : RotAOp) : ShiftOp :=
  match op with
  | .rlca => .rlc
  | .rrca => .rrc
  | .rla => .rl
  | .rra => .rr

/-- Z after a one-byte rotate of A, under the parameter `ROT_A_Z` (R160, D13). -/
def rotAZero (p : Config.RotAZ) (r : Byte) : Bool :=
  match p with
  | .source => decide (r = 0)
  | .hardware => false

/-! ## Bit operations -/

/-- BIT b (R180): Z is the complement of the bit, N reset, H set, C unchanged. -/
def bitFlags (n : Fin 8) (v : Byte) (c : Bool) : Flags := { z := !v.getLsbD n.val, n := false, h := true, c := c }

/-- SET b (R181): `v or 2^b`. -/
def setBit (n : Fin 8) (v : Byte) : Byte := v ||| BitVec.ofNat 8 (2 ^ n.val)

/-- RES b (R182): `v and (0xFF - 2^b)`. -/
def resBit (n : Fin 8) (v : Byte) : Byte := v &&& BitVec.ofNat 8 (0xFF - 2 ^ n.val)

end Sys2Proof.Machine
end

