-- ==== Sys2Proof/Machine/Memory.lean ====
section
/-! DEFINITION. Memory as a sparse list in one canonical form: reading and writing one byte
(20_memory.md R30, R37; 10_state.md R20). -/

namespace Sys2Proof.Machine

/-- What an address that is not listed reads as. The spec gives no contents of memory after reset
(U9); its test vectors start from 0x00 everywhere (95_test_vectors.md section 0). DESIGN CHOICE, entry 2. -/
def Memory.unlisted : Byte := 0x00

/-- The byte stored at address `x`. -/
def Memory.read (m : Memory) (x : Nat) : Byte :=
  match m with
  | [] => Memory.unlisted
  | (y, v) :: rest => if x = y then v else Memory.read rest x

/-- Store `v` at address `x`, keeping the canonical form. -/
def Memory.write (m : Memory) (x : Nat) (v : Byte) : Memory :=
  match m with
  | [] => if v = Memory.unlisted then [] else [(x, v)]
  | (y, w) :: rest =>
    if x < y then (if v = Memory.unlisted then (y, w) :: rest else (x, v) :: (y, w) :: rest)
    else if x = y then (if v = Memory.unlisted then rest else (x, v) :: rest)
    else (y, w) :: Memory.write rest x v

/-- The canonical form from address `lo` on: addresses rising, no byte listed that an unlisted address
reads as. -/
def Memory.canonicalFrom (lo : Nat) (m : Memory) : Bool :=
  match m with
  | [] => true
  | (y, v) :: rest => decide (lo ≤ y) && decide (v ≠ Memory.unlisted) && Memory.canonicalFrom (y + 1) rest

/-- The canonical form, under which equal memories are equal lists. -/
def Memory.canonical (m : Memory) : Bool := Memory.canonicalFrom 0 m

/-- Every listed address is one of the 65536 (R30). -/
def Memory.inSpace (m : Memory) : Bool := m.all fun p => decide (p.1 < 65536)

/-- The form of the CPU's memory: canonical, and inside the address space. -/
def Memory.wf (m : Memory) : Bool := m.canonical && m.inSpace

/-- The byte stored at a 16-bit address; no access on the bus, no state change. -/
def State.peek (s : State) (addr : Word) : Byte := s.mem.read addr.toNat

/-- Put `v` at a 16-bit address of the store itself, whatever the map says of writes there. -/
def State.poke (s : State) (addr : Word) (v : Byte) : State := { s with mem := s.mem.write addr.toNat v }

end Sys2Proof.Machine
end

