-- ==== Sys2Proof/Machine/GivenMap.lean ====
section
/-! DEFINITION. What a platform given as data computes (20_memory.md R37, 60_exceptions.md R222): the value of a
number, the cells it writes, and the three functions of a given map and source over them. -/

namespace Sys2Proof.Machine

/-- What a given platform sees when it is accessed. -/
structure PlatformView where
  /-- The address accessed. -/
  addr : Nat
  /-- The byte written; 0 for a read. -/
  value : Nat
  /-- The CPU's memory. -/
  stored : Memory
  /-- The platform's cells. -/
  cells : Memory
deriving DecidableEq, Repr

/-- The operator applied. -/
def applyNumOp (o : Config.NumOp) (x y : Nat) : Nat :=
  match o with
  | .add => x + y
  | .sub => x - y
  | .mul => x * y
  | .div => x / y
  | .mod => x % y
  | .and => x &&& y
  | .or => x ||| y
  | .xor => x ^^^ y
  | .eq => if x = y then 1 else 0
  | .lt => if x < y then 1 else 0

/-- The value of a number. -/
def evalNum (view : PlatformView) (n : Config.Num) : Nat :=
  match n with
  | .lit k => k
  | .addr => view.addr
  | .value => view.value
  | .cell i => (view.cells.read (evalNum view i)).toNat
  | .stored i => (view.stored.read (evalNum view i)).toNat
  | .op o x y => applyNumOp o (evalNum view x) (evalNum view y)
  | .cond c x y => if evalNum view c = 0 then evalNum view y else evalNum view x

/-- The cells after the writes: every number is that of `view`, and of two writes to one cell the later
counts. -/
def writeCells (view : PlatformView) (ws : List Config.CellWrite) : Memory :=
  ws.foldl (fun cells w => cells.write (evalNum view w.index) (BitVec.ofNat 8 (evalNum view w.value))) view.cells

/-- What the platform sees of an access to `addr` with the byte `value`. -/
def State.viewFor (s : State) (addr : Word) (value : Byte) : PlatformView :=
  { addr := addr.toNat, value := value.toNat, stored := s.mem, cells := s.platform.cells }

/-- `s` with these platform cells. -/
def State.setCells (s : State) (cells : Memory) : State := { s with platform := { s.platform with cells := cells } }

/-- `MemMap.read` of a given map at `addr` (R37). -/
def State.readGiven (s : State) (m : Config.GivenMap) (addr : Word) : Byte × State :=
  let view := s.viewFor addr 0
  (BitVec.ofNat 8 (evalNum view m.answer), s.setCells (writeCells view m.onRead))

/-- `MemMap.write` of a given map (R37): `v` at `addr`. -/
def State.writeGiven (s : State) (m : Config.GivenMap) (addr : Word) (v : Byte) : State :=
  s.setCells (writeCells (s.viewFor addr v) m.onWrite)

/-- `IntSource.select` of a given source where `IntSource.pending` of it holds, else `none` (R222). -/
def State.selectGiven (s : State) (g : Config.GivenSource) : Option (Word × State) :=
  let view := s.viewFor 0 0
  if evalNum view g.pending = 0 then none
  else some (BitVec.ofNat 16 (evalNum view g.vector), s.setCells (writeCells view g.onSelect))

/-- `IntSource.stop_wake` of a given source (R222). -/
def State.wakeGiven (s : State) (g : Config.GivenSource) : Bool := decide (evalNum (s.viewFor 0 0) g.stopWake ≠ 0)

end Sys2Proof.Machine
end

