-- ==== Sys2Proof/Machine/Platform.lean ====
section
/-! DEFINITION. The platform: the memory map `MemMap` (20_memory.md R36, R37), the interrupt source
`IntSource` (60_exceptions.md R222 to R224), and what the platform does between steps. -/

namespace Sys2Proof.Machine

/-- What lies at an address: the first window that holds it, else RAM (D8's default). -/
def kindIn (windows : List Config.Window) (addr : Word) : Config.WindowKind :=
  match windows with
  | [] => .ram
  | w :: rest => if w.first ≤ addr.toNat ∧ addr.toNat ≤ w.last then w.kind else kindIn rest addr

/-- What lies at an address of this machine's map. -/
def State.kindAt (s : State) (addr : Word) : Config.WindowKind := kindIn s.params.memMap addr

/-- `s` with one more access on the bus. -/
def State.logAccess (s : State) (acc : Config.BusAccess) : State :=
  { s with platform := { s.platform with bus := acc :: s.platform.bus } }

/-- `MemRead(addr, 1)` (R37): the byte, and the state after the platform has seen the read. -/
def State.memRead (s : State) (addr : Word) : Byte × State :=
  match s.kindAt addr with
  | .ram => (s.peek addr, s)
  | .rom => (s.peek addr, s)
  | .absent v => (v, s)
  | .device =>
    let v := Config.deviceByte s.platform.bus addr
    (v, s.logAccess (.read addr v))
  | .given m => s.readGiven m addr

/-- `MemWrite(addr, 1, v)` (R37). -/
def State.memWrite (s : State) (addr : Word) (v : Byte) : State :=
  match s.kindAt addr with
  | .ram => s.poke addr v
  | .rom => s
  | .absent _ => s
  | .device => s.logAccess (.write addr v)
  | .given m => s.writeGiven m addr v

/-- The interrupt enable register IE of R223's informative instance: bits 4 to 0 of the byte stored here (entry 7).
Bits 7 to 5 are ordinary stored bits (DESIGN CHOICE, entry 27: R223 does not say what they are). -/
def ieAddr : Word := 0xFFFF

/-- The interrupt request register IF of R223's informative instance: bits 4 to 0 of the byte stored here (entry 7).
Bits 7 to 5 are ordinary stored bits (DESIGN CHOICE, entry 27). -/
def ifAddr : Word := 0xFF0F

/-- The least `i` with `5 - fuel ≤ i < 5` whose bit of `v` is set. -/
def lowestRequest (v : Byte) (fuel : Nat) : Option Nat :=
  match fuel with
  | 0 => none
  | k + 1 => if v.getLsbD (4 - k) then some (4 - k) else lowestRequest v k

/-- `IntSource.select` (R222) where a request is pending, `none` where none is: the handler address of
the request to serve, and the state with it marked served. For R223's instance the request is the
lowest set bit of `IE and IF` among bits 4 to 0, its vector is 0x40 + 8 * bit, and its bit of IF is cleared
(PRESUMED, entry 7). Bits 7 to 5 of the two bytes are stored bits that neither request nor change: DESIGN
CHOICE, entry 27; R223 calls both registers 5-bit and leaves these bits open. -/
def State.intSelect (s : State) : Option (Word × State) :=
  match s.params.intSource with
  | .external =>
    match s.platform.requests with
    | [] => none
    | v :: rest => some (v, { s with platform := { s.platform with requests := rest } })
  | .gameBoy =>
    match lowestRequest (s.peek ieAddr &&& s.peek ifAddr) 5 with
    | none => none
    | some i => some (BitVec.ofNat 16 (0x40 + 8 * i), s.poke ifAddr (s.peek ifAddr &&& BitVec.ofNat 8 (0xFF - 2 ^ i)))
  | .given g => s.selectGiven g

/-- `IntSource.pending` (R222): some enabled source is requesting. -/
def State.intPending (s : State) : Bool := s.intSelect.isSome

/-- `IntSource.stop_wake` (R222, `STOP_WAKE`). -/
def State.stopWake (s : State) : Bool :=
  match s.params.intSource with
  | .given g => s.wakeGiven g
  | .external => s.platform.stopWake
  | .gameBoy => s.platform.stopWake

/-- One doing of the platform. -/
def State.applyEvent (s : State) (ev : PlatformEvent) : State :=
  match ev with
  | .requests vs => { s with platform := { s.platform with requests := vs } }
  | .stopWake on => { s with platform := { s.platform with stopWake := on } }
  | .store addr v => s.poke addr v
  | .cell index v => s.setCells (s.platform.cells.write index v)

/-- What the platform does before the coming step: the first entry of `arrivals`, in order. With no
entry left it does nothing. -/
def State.deliver (s : State) : State :=
  match s.platform.arrivals with
  | [] => s
  | evs :: rest => evs.foldl State.applyEvent { s with platform := { s.platform with arrivals := rest } }

end Sys2Proof.Machine
end

