-- ==== Sys2Proof/Machine/Ops.lean ====
section
/-! DEFINITION. The named operations over registers, memory and the interrupt state: register pairs
(10_state.md R12, R13), flags, the program counter, the stack primitives (41_loads16.md R104), taking
an interrupt (60_exceptions.md R226) and returning from one (49_returns.md R212), and the delayed
change of IME (44_misc.md R150). -/

namespace Sys2Proof.Machine.State

/-! ## Views of the registers -/

/-- The flags as a value. -/
def flags (s : State) : Flags := { z := s.fZ, n := s.fN, h := s.fH, c := s.fC }

/-- The flag register F (R12). -/
def f (s : State) : Byte := s.flags.toByte

/-- `BC = {B, C}` (R13). -/
def bc (s : State) : Word := joinBytes s.b s.c

/-- `DE = {D, E}` (R13). -/
def de (s : State) : Word := joinBytes s.d s.e

/-- `HL = {H, L}` (R13). -/
def hl (s : State) : Word := joinBytes s.h s.l

/-- `AF = {A, F}` (R13). -/
def af (s : State) : Word := joinBytes s.a s.f

/-! ## Updates -/

/-- Write all four flags. -/
def setFlags (s : State) (f : Flags) : State := { s with fZ := f.z, fN := f.n, fH := f.h, fC := f.c }

/-- Write A. -/
def setA (s : State) (v : Byte) : State := { s with a := v }

/-- `BC <- v` (R6). -/
def setBC (s : State) (v : Word) : State := { s with b := hiByte v, c := loByte v }

/-- `DE <- v` (R6). -/
def setDE (s : State) (v : Word) : State := { s with d := hiByte v, e := loByte v }

/-- `HL <- v` (R6). -/
def setHL (s : State) (v : Word) : State := { s with h := hiByte v, l := loByte v }

/-- `AF <- v` (R106): the flags take bits 7 to 4, bits 3:0 are discarded. -/
def setAF (s : State) (v : Word) : State := (s.setA (hiByte v)).setFlags (Flags.ofByte (loByte v))

/-- `SP <- v`. -/
def setSP (s : State) (v : Word) : State := { s with sp := v }

/-- `pc <- target`. -/
def jump (s : State) (target : Word) : State := { s with pc := target }

/-- `pcn`: the address after an instruction of `len` bytes at `pc` (R15, R50). -/
def next (s : State) (len : Word) : Word := s.pc + len

/-- `pc <- pcn`. -/
def advance (s : State) (len : Word) : State := s.jump (s.next len)

/-! ## The stack -/

/-- `push16(v)` (R104). -/
def push16 (s : State) (v : Word) : State :=
  let s1 := (s.setSP (s.sp - 1)).memWrite (s.sp - 1) (hiByte v)
  (s1.setSP (s1.sp - 1)).memWrite (s1.sp - 1) (loByte v)

/-- `pop16()` (R104): the word and the state after. -/
def pop16 (s : State) : Word × State :=
  let lo := s.memRead s.sp
  let s1 := lo.2.setSP (lo.2.sp + 1)
  let hi := s1.memRead s1.sp
  (joinBytes hi.1 lo.1, hi.2.setSP (hi.2.sp + 1))

/-! ## Interrupts -/

/-- Taking an interrupt (R226), after `IntSource.select` has given `vector`: IME is cleared, a
scheduled change is cancelled, the CPU runs, `pc` is pushed, and control goes to the handler. -/
def takeInterrupt (s : State) (vector : Word) : State :=
  (({ s with ime := false, imePending := .none, mode := .running } : State).push16 s.pc).jump vector

/-- Returning from an interrupt (R212, R227): `pc <- pop16(); IME <- 1; ime_pending <- none`. -/
def returnFromInterrupt (s : State) : State :=
  let r := s.pop16
  { r.2 with pc := r.1, ime := true, imePending := .none }

/-- The first half of the completion step (R150): the change of IME that was pending when the
instruction began. The second half, the instruction's own change, is in EI, DI and RETI. No
instruction reads IME or `ime_pending`, so applying this half before the instruction's effects gives
the state R150 gives (DEDUCED, entry 8). -/
def applyImePending (s : State) : State :=
  match s.imePending with
  | .none => s
  | .enable => { s with ime := true, imePending := .none }
  | .disable => { s with ime := false, imePending := .none }

/-- `ime_pending <- p` (R148, R149). -/
def schedule (s : State) (p : ImePending) : State := { s with imePending := p }

end Sys2Proof.Machine.State
end

