-- ==== Sys2Proof/Machine/Operands.lean ====
section
/-! DEFINITION. Every operand form: 8-bit operands `rd8` and `wr8` (30_encoding.md R52), register
pairs (R53), and the condition test (47_jumps.md R191). -/

namespace Sys2Proof.Machine.State

/-- `rd8`: the register, or for `(HL)` `MemRead(HL, 1)` (R52). -/
def rd8 (s : State) (o : Opnd8) : Byte × State :=
  match o with
  | .b => (s.b, s)
  | .c => (s.c, s)
  | .d => (s.d, s)
  | .e => (s.e, s)
  | .h => (s.h, s)
  | .l => (s.l, s)
  | .mhl => s.memRead s.hl
  | .a => (s.a, s)

/-- `wr8`: the register, or for `(HL)` `MemWrite(HL, 1, v)` (R52). -/
def wr8 (s : State) (o : Opnd8) (v : Byte) : State :=
  match o with
  | .b => { s with b := v }
  | .c => { s with c := v }
  | .d => { s with d := v }
  | .e => { s with e := v }
  | .h => { s with h := v }
  | .l => { s with l := v }
  | .mhl => s.memWrite s.hl v
  | .a => { s with a := v }

/-- The value of a pair operand (R53). -/
def getPair (s : State) (p : Pair) : Word :=
  match p with
  | .bc => s.bc
  | .de => s.de
  | .hl => s.hl
  | .sp => s.sp

/-- Write a pair operand (R53). -/
def setPair (s : State) (p : Pair) (v : Word) : State :=
  match p with
  | .bc => s.setBC v
  | .de => s.setDE v
  | .hl => s.setHL v
  | .sp => s.setSP v

/-- The value PUSH pushes (R105). -/
def getStackPair (s : State) (p : StackPair) : Word :=
  match p with
  | .bc => s.bc
  | .de => s.de
  | .hl => s.hl
  | .af => s.af

/-- Write the pair POP loads (R106). -/
def setStackPair (s : State) (p : StackPair) (v : Word) : State :=
  match p with
  | .bc => s.setBC v
  | .de => s.setDE v
  | .hl => s.setHL v
  | .af => s.setAF v

/-- `cond(cc)` (R191). -/
def cond (s : State) (cc : Cond) : Bool :=
  match cc with
  | .nz => !s.fZ
  | .z => s.fZ
  | .nc => !s.fC
  | .c => s.fC

end Sys2Proof.Machine.State
end

