-- ==== Sys2Proof/Machine/Alu16.lean ====
section
/-! DEFINITION. 16-bit arithmetic (43_alu16.md). One meaning per row of
the opcode table, over the shared operations that stand first. Each ends with `pc <- pcn` unless its
rule says otherwise, and none can fault (R220). -/

namespace Sys2Proof.Machine

/-- `ADD HL,rr` (R130). -/
def State.addHl (s : State) (p : Pair) : State :=
  let r := addHlResult s.hl (s.getPair p) s.fZ
  ((s.setHL r.1).setFlags r.2).advance 1

/-- `ADD SP,n` (R131). -/
def State.addSp (s : State) (e8 : Byte) : State :=
  let r := addSpResult s.sp e8
  ((s.setSP r.1).setFlags r.2).advance 2

/-- 16-bit INC: no flag (R132). -/
def State.incPair (s : State) (p : Pair) : State := (s.setPair p (s.getPair p + 1)).advance 1

/-- 16-bit DEC: no flag (R133). -/
def State.decPair (s : State) (p : Pair) : State := (s.setPair p (s.getPair p - 1)).advance 1

/-! ## The meanings -/

/-- `INC BC` (R132). -/
def exec_inc_bc (s : State) : Result := .next (s.incPair .bc)

/-- `ADD HL,BC` (R130). -/
def exec_add_hl_bc (s : State) : Result := .next (s.addHl .bc)

/-- `DEC BC` (R133). -/
def exec_dec_bc (s : State) : Result := .next (s.decPair .bc)

/-- `INC DE` (R132). -/
def exec_inc_de (s : State) : Result := .next (s.incPair .de)

/-- `ADD HL,DE` (R130). -/
def exec_add_hl_de (s : State) : Result := .next (s.addHl .de)

/-- `DEC DE` (R133). -/
def exec_dec_de (s : State) : Result := .next (s.decPair .de)

/-- `INC HL` (R132). -/
def exec_inc_hl (s : State) : Result := .next (s.incPair .hl)

/-- `ADD HL,HL` (R130). -/
def exec_add_hl_hl (s : State) : Result := .next (s.addHl .hl)

/-- `DEC HL` (R133). -/
def exec_dec_hl (s : State) : Result := .next (s.decPair .hl)

/-- `INC SP` (R132). -/
def exec_inc_sp (s : State) : Result := .next (s.incPair .sp)

/-- `ADD HL,SP` (R130). -/
def exec_add_hl_sp (s : State) : Result := .next (s.addHl .sp)

/-- `DEC SP` (R133). -/
def exec_dec_sp (s : State) : Result := .next (s.decPair .sp)

/-- `ADD SP,#` (R131). -/
def exec_add_sp_e8 (e8 : Byte) (s : State) : Result := .next (s.addSp e8)

end Sys2Proof.Machine
end

