-- ==== Sys2Proof/Machine/Alu8.lean ====
section
/-! DEFINITION. The 8-bit ALU (42_alu8.md). One meaning per row of
the opcode table, over the shared operations that stand first. Each ends with `pc <- pcn` unless its
rule says otherwise, and none can fault (R220). -/

namespace Sys2Proof.Machine

/-- The ALU operation `op` on A and the value `v`: the new A and flags (R110 to R117). -/
def State.aluWith (s : State) (op : AluOp) (v : Byte) : State :=
  let r := aluResult op s.a v s.fC
  (s.setA r.1).setFlags r.2

/-- An ALU operation on a register or (HL) (R120). -/
def State.alu (s : State) (op : AluOp) (o : Opnd8) : State :=
  let r := s.rd8 o
  (r.2.aluWith op r.1).advance 1

/-- An ALU operation on an immediate byte (R120). -/
def State.aluImm (s : State) (op : AluOp) (n : Byte) : State := (s.aluWith op n).advance 2

/-- 8-bit INC: one read, one write (R118, R34). -/
def State.inc8 (s : State) (o : Opnd8) : State :=
  let r := s.rd8 o
  let w := incResult r.1 s.fC
  ((r.2.wr8 o w.1).setFlags w.2).advance 1

/-- 8-bit DEC: one read, one write (R119, R34). -/
def State.dec8 (s : State) (o : Opnd8) : State :=
  let r := s.rd8 o
  let w := decResult r.1 s.fC
  ((r.2.wr8 o w.1).setFlags w.2).advance 1

/-! ## The meanings -/

/-- `INC B` (R118). -/
def exec_inc_b (s : State) : Result := .next (s.inc8 .b)

/-- `DEC B` (R119). -/
def exec_dec_b (s : State) : Result := .next (s.dec8 .b)

/-- `INC C` (R118). -/
def exec_inc_c (s : State) : Result := .next (s.inc8 .c)

/-- `DEC C` (R119). -/
def exec_dec_c (s : State) : Result := .next (s.dec8 .c)

/-- `INC D` (R118). -/
def exec_inc_d (s : State) : Result := .next (s.inc8 .d)

/-- `DEC D` (R119). -/
def exec_dec_d (s : State) : Result := .next (s.dec8 .d)

/-- `INC E` (R118). -/
def exec_inc_e (s : State) : Result := .next (s.inc8 .e)

/-- `DEC E` (R119). -/
def exec_dec_e (s : State) : Result := .next (s.dec8 .e)

/-- `INC H` (R118). -/
def exec_inc_h (s : State) : Result := .next (s.inc8 .h)

/-- `DEC H` (R119). -/
def exec_dec_h (s : State) : Result := .next (s.dec8 .h)

/-- `INC L` (R118). -/
def exec_inc_l (s : State) : Result := .next (s.inc8 .l)

/-- `DEC L` (R119). -/
def exec_dec_l (s : State) : Result := .next (s.dec8 .l)

/-- `INC (HL)` (R118). -/
def exec_inc_mhl (s : State) : Result := .next (s.inc8 .mhl)

/-- `DEC (HL)` (R119). -/
def exec_dec_mhl (s : State) : Result := .next (s.dec8 .mhl)

/-- `INC A` (R118). -/
def exec_inc_a (s : State) : Result := .next (s.inc8 .a)

/-- `DEC A` (R119). -/
def exec_dec_a (s : State) : Result := .next (s.dec8 .a)

/-- `ADD A,B` (R110). -/
def exec_add_a_b (s : State) : Result := .next (s.alu .add .b)

/-- `ADD A,C` (R110). -/
def exec_add_a_c (s : State) : Result := .next (s.alu .add .c)

/-- `ADD A,D` (R110). -/
def exec_add_a_d (s : State) : Result := .next (s.alu .add .d)

/-- `ADD A,E` (R110). -/
def exec_add_a_e (s : State) : Result := .next (s.alu .add .e)

/-- `ADD A,H` (R110). -/
def exec_add_a_h (s : State) : Result := .next (s.alu .add .h)

/-- `ADD A,L` (R110). -/
def exec_add_a_l (s : State) : Result := .next (s.alu .add .l)

/-- `ADD A,(HL)` (R110). -/
def exec_add_a_mhl (s : State) : Result := .next (s.alu .add .mhl)

/-- `ADD A,A` (R110). -/
def exec_add_a_a (s : State) : Result := .next (s.alu .add .a)

/-- `ADC A,B` (R111). -/
def exec_adc_a_b (s : State) : Result := .next (s.alu .adc .b)

/-- `ADC A,C` (R111). -/
def exec_adc_a_c (s : State) : Result := .next (s.alu .adc .c)

/-- `ADC A,D` (R111). -/
def exec_adc_a_d (s : State) : Result := .next (s.alu .adc .d)

/-- `ADC A,E` (R111). -/
def exec_adc_a_e (s : State) : Result := .next (s.alu .adc .e)

/-- `ADC A,H` (R111). -/
def exec_adc_a_h (s : State) : Result := .next (s.alu .adc .h)

/-- `ADC A,L` (R111). -/
def exec_adc_a_l (s : State) : Result := .next (s.alu .adc .l)

/-- `ADC A,(HL)` (R111). -/
def exec_adc_a_mhl (s : State) : Result := .next (s.alu .adc .mhl)

/-- `ADC A,A` (R111). -/
def exec_adc_a_a (s : State) : Result := .next (s.alu .adc .a)

/-- `SUB B` (R112). -/
def exec_sub_b (s : State) : Result := .next (s.alu .sub .b)

/-- `SUB C` (R112). -/
def exec_sub_c (s : State) : Result := .next (s.alu .sub .c)

/-- `SUB D` (R112). -/
def exec_sub_d (s : State) : Result := .next (s.alu .sub .d)

/-- `SUB E` (R112). -/
def exec_sub_e (s : State) : Result := .next (s.alu .sub .e)

/-- `SUB H` (R112). -/
def exec_sub_h (s : State) : Result := .next (s.alu .sub .h)

/-- `SUB L` (R112). -/
def exec_sub_l (s : State) : Result := .next (s.alu .sub .l)

/-- `SUB (HL)` (R112). -/
def exec_sub_mhl (s : State) : Result := .next (s.alu .sub .mhl)

/-- `SUB A` (R112). -/
def exec_sub_a (s : State) : Result := .next (s.alu .sub .a)

/-- `SBC A,B` (R113). -/
def exec_sbc_a_b (s : State) : Result := .next (s.alu .sbc .b)

/-- `SBC A,C` (R113). -/
def exec_sbc_a_c (s : State) : Result := .next (s.alu .sbc .c)

/-- `SBC A,D` (R113). -/
def exec_sbc_a_d (s : State) : Result := .next (s.alu .sbc .d)

/-- `SBC A,E` (R113). -/
def exec_sbc_a_e (s : State) : Result := .next (s.alu .sbc .e)

/-- `SBC A,H` (R113). -/
def exec_sbc_a_h (s : State) : Result := .next (s.alu .sbc .h)

/-- `SBC A,L` (R113). -/
def exec_sbc_a_l (s : State) : Result := .next (s.alu .sbc .l)

/-- `SBC A,(HL)` (R113). -/
def exec_sbc_a_mhl (s : State) : Result := .next (s.alu .sbc .mhl)

/-- `SBC A,A` (R113). -/
def exec_sbc_a_a (s : State) : Result := .next (s.alu .sbc .a)

/-- `AND B` (R114). -/
def exec_and_b (s : State) : Result := .next (s.alu .and .b)

/-- `AND C` (R114). -/
def exec_and_c (s : State) : Result := .next (s.alu .and .c)

/-- `AND D` (R114). -/
def exec_and_d (s : State) : Result := .next (s.alu .and .d)

/-- `AND E` (R114). -/
def exec_and_e (s : State) : Result := .next (s.alu .and .e)

/-- `AND H` (R114). -/
def exec_and_h (s : State) : Result := .next (s.alu .and .h)

/-- `AND L` (R114). -/
def exec_and_l (s : State) : Result := .next (s.alu .and .l)

/-- `AND (HL)` (R114). -/
def exec_and_mhl (s : State) : Result := .next (s.alu .and .mhl)

/-- `AND A` (R114). -/
def exec_and_a (s : State) : Result := .next (s.alu .and .a)

/-- `XOR B` (R116). -/
def exec_xor_b (s : State) : Result := .next (s.alu .xor .b)

/-- `XOR C` (R116). -/
def exec_xor_c (s : State) : Result := .next (s.alu .xor .c)

/-- `XOR D` (R116). -/
def exec_xor_d (s : State) : Result := .next (s.alu .xor .d)

/-- `XOR E` (R116). -/
def exec_xor_e (s : State) : Result := .next (s.alu .xor .e)

/-- `XOR H` (R116). -/
def exec_xor_h (s : State) : Result := .next (s.alu .xor .h)

/-- `XOR L` (R116). -/
def exec_xor_l (s : State) : Result := .next (s.alu .xor .l)

/-- `XOR (HL)` (R116). -/
def exec_xor_mhl (s : State) : Result := .next (s.alu .xor .mhl)

/-- `XOR A` (R116). -/
def exec_xor_a (s : State) : Result := .next (s.alu .xor .a)

/-- `OR B` (R115). -/
def exec_or_b (s : State) : Result := .next (s.alu .or .b)

/-- `OR C` (R115). -/
def exec_or_c (s : State) : Result := .next (s.alu .or .c)

/-- `OR D` (R115). -/
def exec_or_d (s : State) : Result := .next (s.alu .or .d)

/-- `OR E` (R115). -/
def exec_or_e (s : State) : Result := .next (s.alu .or .e)

/-- `OR H` (R115). -/
def exec_or_h (s : State) : Result := .next (s.alu .or .h)

/-- `OR L` (R115). -/
def exec_or_l (s : State) : Result := .next (s.alu .or .l)

/-- `OR (HL)` (R115). -/
def exec_or_mhl (s : State) : Result := .next (s.alu .or .mhl)

/-- `OR A` (R115). -/
def exec_or_a (s : State) : Result := .next (s.alu .or .a)

/-- `CP B` (R117). -/
def exec_cp_b (s : State) : Result := .next (s.alu .cp .b)

/-- `CP C` (R117). -/
def exec_cp_c (s : State) : Result := .next (s.alu .cp .c)

/-- `CP D` (R117). -/
def exec_cp_d (s : State) : Result := .next (s.alu .cp .d)

/-- `CP E` (R117). -/
def exec_cp_e (s : State) : Result := .next (s.alu .cp .e)

/-- `CP H` (R117). -/
def exec_cp_h (s : State) : Result := .next (s.alu .cp .h)

/-- `CP L` (R117). -/
def exec_cp_l (s : State) : Result := .next (s.alu .cp .l)

/-- `CP (HL)` (R117). -/
def exec_cp_mhl (s : State) : Result := .next (s.alu .cp .mhl)

/-- `CP A` (R117). -/
def exec_cp_a (s : State) : Result := .next (s.alu .cp .a)

/-- `ADD A,#` (R110). -/
def exec_add_a_n (n : Byte) (s : State) : Result := .next (s.aluImm .add n)

/-- `ADC A,#` (R111). -/
def exec_adc_a_n (n : Byte) (s : State) : Result := .next (s.aluImm .adc n)

/-- `SUB #` (R112). -/
def exec_sub_n (n : Byte) (s : State) : Result := .next (s.aluImm .sub n)

/-- `SBC A,#` (R113). -/
def exec_sbc_a_n (n : Byte) (s : State) : Result := .next (s.aluImm .sbc n)

/-- `AND #` (R114). -/
def exec_and_n (n : Byte) (s : State) : Result := .next (s.aluImm .and n)

/-- `XOR #` (R116). -/
def exec_xor_n (n : Byte) (s : State) : Result := .next (s.aluImm .xor n)

/-- `OR #` (R115). -/
def exec_or_n (n : Byte) (s : State) : Result := .next (s.aluImm .or n)

/-- `CP #` (R117). -/
def exec_cp_n (n : Byte) (s : State) : Result := .next (s.aluImm .cp n)

end Sys2Proof.Machine
end

