-- ==== Sys2Proof/Machine/BitOps.lean ====
section
/-! DEFINITION. Bit opcodes (46_bit.md). One meaning per row of
the opcode table, over the shared operations that stand first. Each ends with `pc <- pcn` unless its
rule says otherwise, and none can fault (R220). -/

namespace Sys2Proof.Machine

/-- `BIT b,r` (R180): one read, nothing written to r. -/
def State.testBit (s : State) (n : Fin 8) (o : Opnd8) : State :=
  let r := s.rd8 o
  (r.2.setFlags (bitFlags n r.1 s.fC)).advance 2

/-- `SET b,r` (R181): a read and a write, no flag. -/
def State.setBit8 (s : State) (n : Fin 8) (o : Opnd8) : State :=
  let r := s.rd8 o
  (r.2.wr8 o (setBit n r.1)).advance 2

/-- `RES b,r` (R182): a read and a write, no flag. -/
def State.resetBit (s : State) (n : Fin 8) (o : Opnd8) : State :=
  let r := s.rd8 o
  (r.2.wr8 o (resBit n r.1)).advance 2

/-! ## The meanings -/

/-- `BIT 0,B` (R180). -/
def exec_bit_0_b (s : State) : Result := .next (s.testBit 0 .b)

/-- `BIT 0,C` (R180). -/
def exec_bit_0_c (s : State) : Result := .next (s.testBit 0 .c)

/-- `BIT 0,D` (R180). -/
def exec_bit_0_d (s : State) : Result := .next (s.testBit 0 .d)

/-- `BIT 0,E` (R180). -/
def exec_bit_0_e (s : State) : Result := .next (s.testBit 0 .e)

/-- `BIT 0,H` (R180). -/
def exec_bit_0_h (s : State) : Result := .next (s.testBit 0 .h)

/-- `BIT 0,L` (R180). -/
def exec_bit_0_l (s : State) : Result := .next (s.testBit 0 .l)

/-- `BIT 0,(HL)` (R180). -/
def exec_bit_0_mhl (s : State) : Result := .next (s.testBit 0 .mhl)

/-- `BIT 0,A` (R180). -/
def exec_bit_0_a (s : State) : Result := .next (s.testBit 0 .a)

/-- `BIT 1,B` (R180). -/
def exec_bit_1_b (s : State) : Result := .next (s.testBit 1 .b)

/-- `BIT 1,C` (R180). -/
def exec_bit_1_c (s : State) : Result := .next (s.testBit 1 .c)

/-- `BIT 1,D` (R180). -/
def exec_bit_1_d (s : State) : Result := .next (s.testBit 1 .d)

/-- `BIT 1,E` (R180). -/
def exec_bit_1_e (s : State) : Result := .next (s.testBit 1 .e)

/-- `BIT 1,H` (R180). -/
def exec_bit_1_h (s : State) : Result := .next (s.testBit 1 .h)

/-- `BIT 1,L` (R180). -/
def exec_bit_1_l (s : State) : Result := .next (s.testBit 1 .l)

/-- `BIT 1,(HL)` (R180). -/
def exec_bit_1_mhl (s : State) : Result := .next (s.testBit 1 .mhl)

/-- `BIT 1,A` (R180). -/
def exec_bit_1_a (s : State) : Result := .next (s.testBit 1 .a)

/-- `BIT 2,B` (R180). -/
def exec_bit_2_b (s : State) : Result := .next (s.testBit 2 .b)

/-- `BIT 2,C` (R180). -/
def exec_bit_2_c (s : State) : Result := .next (s.testBit 2 .c)

/-- `BIT 2,D` (R180). -/
def exec_bit_2_d (s : State) : Result := .next (s.testBit 2 .d)

/-- `BIT 2,E` (R180). -/
def exec_bit_2_e (s : State) : Result := .next (s.testBit 2 .e)

/-- `BIT 2,H` (R180). -/
def exec_bit_2_h (s : State) : Result := .next (s.testBit 2 .h)

/-- `BIT 2,L` (R180). -/
def exec_bit_2_l (s : State) : Result := .next (s.testBit 2 .l)

/-- `BIT 2,(HL)` (R180). -/
def exec_bit_2_mhl (s : State) : Result := .next (s.testBit 2 .mhl)

/-- `BIT 2,A` (R180). -/
def exec_bit_2_a (s : State) : Result := .next (s.testBit 2 .a)

/-- `BIT 3,B` (R180). -/
def exec_bit_3_b (s : State) : Result := .next (s.testBit 3 .b)

/-- `BIT 3,C` (R180). -/
def exec_bit_3_c (s : State) : Result := .next (s.testBit 3 .c)

/-- `BIT 3,D` (R180). -/
def exec_bit_3_d (s : State) : Result := .next (s.testBit 3 .d)

/-- `BIT 3,E` (R180). -/
def exec_bit_3_e (s : State) : Result := .next (s.testBit 3 .e)

/-- `BIT 3,H` (R180). -/
def exec_bit_3_h (s : State) : Result := .next (s.testBit 3 .h)

/-- `BIT 3,L` (R180). -/
def exec_bit_3_l (s : State) : Result := .next (s.testBit 3 .l)

/-- `BIT 3,(HL)` (R180). -/
def exec_bit_3_mhl (s : State) : Result := .next (s.testBit 3 .mhl)

/-- `BIT 3,A` (R180). -/
def exec_bit_3_a (s : State) : Result := .next (s.testBit 3 .a)

/-- `BIT 4,B` (R180). -/
def exec_bit_4_b (s : State) : Result := .next (s.testBit 4 .b)

/-- `BIT 4,C` (R180). -/
def exec_bit_4_c (s : State) : Result := .next (s.testBit 4 .c)

/-- `BIT 4,D` (R180). -/
def exec_bit_4_d (s : State) : Result := .next (s.testBit 4 .d)

/-- `BIT 4,E` (R180). -/
def exec_bit_4_e (s : State) : Result := .next (s.testBit 4 .e)

/-- `BIT 4,H` (R180). -/
def exec_bit_4_h (s : State) : Result := .next (s.testBit 4 .h)

/-- `BIT 4,L` (R180). -/
def exec_bit_4_l (s : State) : Result := .next (s.testBit 4 .l)

/-- `BIT 4,(HL)` (R180). -/
def exec_bit_4_mhl (s : State) : Result := .next (s.testBit 4 .mhl)

/-- `BIT 4,A` (R180). -/
def exec_bit_4_a (s : State) : Result := .next (s.testBit 4 .a)

/-- `BIT 5,B` (R180). -/
def exec_bit_5_b (s : State) : Result := .next (s.testBit 5 .b)

/-- `BIT 5,C` (R180). -/
def exec_bit_5_c (s : State) : Result := .next (s.testBit 5 .c)

/-- `BIT 5,D` (R180). -/
def exec_bit_5_d (s : State) : Result := .next (s.testBit 5 .d)

/-- `BIT 5,E` (R180). -/
def exec_bit_5_e (s : State) : Result := .next (s.testBit 5 .e)

/-- `BIT 5,H` (R180). -/
def exec_bit_5_h (s : State) : Result := .next (s.testBit 5 .h)

/-- `BIT 5,L` (R180). -/
def exec_bit_5_l (s : State) : Result := .next (s.testBit 5 .l)

/-- `BIT 5,(HL)` (R180). -/
def exec_bit_5_mhl (s : State) : Result := .next (s.testBit 5 .mhl)

/-- `BIT 5,A` (R180). -/
def exec_bit_5_a (s : State) : Result := .next (s.testBit 5 .a)

/-- `BIT 6,B` (R180). -/
def exec_bit_6_b (s : State) : Result := .next (s.testBit 6 .b)

/-- `BIT 6,C` (R180). -/
def exec_bit_6_c (s : State) : Result := .next (s.testBit 6 .c)

/-- `BIT 6,D` (R180). -/
def exec_bit_6_d (s : State) : Result := .next (s.testBit 6 .d)

/-- `BIT 6,E` (R180). -/
def exec_bit_6_e (s : State) : Result := .next (s.testBit 6 .e)

/-- `BIT 6,H` (R180). -/
def exec_bit_6_h (s : State) : Result := .next (s.testBit 6 .h)

/-- `BIT 6,L` (R180). -/
def exec_bit_6_l (s : State) : Result := .next (s.testBit 6 .l)

/-- `BIT 6,(HL)` (R180). -/
def exec_bit_6_mhl (s : State) : Result := .next (s.testBit 6 .mhl)

/-- `BIT 6,A` (R180). -/
def exec_bit_6_a (s : State) : Result := .next (s.testBit 6 .a)

/-- `BIT 7,B` (R180). -/
def exec_bit_7_b (s : State) : Result := .next (s.testBit 7 .b)

/-- `BIT 7,C` (R180). -/
def exec_bit_7_c (s : State) : Result := .next (s.testBit 7 .c)

/-- `BIT 7,D` (R180). -/
def exec_bit_7_d (s : State) : Result := .next (s.testBit 7 .d)

/-- `BIT 7,E` (R180). -/
def exec_bit_7_e (s : State) : Result := .next (s.testBit 7 .e)

/-- `BIT 7,H` (R180). -/
def exec_bit_7_h (s : State) : Result := .next (s.testBit 7 .h)

/-- `BIT 7,L` (R180). -/
def exec_bit_7_l (s : State) : Result := .next (s.testBit 7 .l)

/-- `BIT 7,(HL)` (R180). -/
def exec_bit_7_mhl (s : State) : Result := .next (s.testBit 7 .mhl)

/-- `BIT 7,A` (R180). -/
def exec_bit_7_a (s : State) : Result := .next (s.testBit 7 .a)

/-- `RES 0,B` (R182). -/
def exec_res_0_b (s : State) : Result := .next (s.resetBit 0 .b)

/-- `RES 0,C` (R182). -/
def exec_res_0_c (s : State) : Result := .next (s.resetBit 0 .c)

/-- `RES 0,D` (R182). -/
def exec_res_0_d (s : State) : Result := .next (s.resetBit 0 .d)

/-- `RES 0,E` (R182). -/
def exec_res_0_e (s : State) : Result := .next (s.resetBit 0 .e)

/-- `RES 0,H` (R182). -/
def exec_res_0_h (s : State) : Result := .next (s.resetBit 0 .h)

/-- `RES 0,L` (R182). -/
def exec_res_0_l (s : State) : Result := .next (s.resetBit 0 .l)

/-- `RES 0,(HL)` (R182). -/
def exec_res_0_mhl (s : State) : Result := .next (s.resetBit 0 .mhl)

/-- `RES 0,A` (R182). -/
def exec_res_0_a (s : State) : Result := .next (s.resetBit 0 .a)

/-- `RES 1,B` (R182). -/
def exec_res_1_b (s : State) : Result := .next (s.resetBit 1 .b)

/-- `RES 1,C` (R182). -/
def exec_res_1_c (s : State) : Result := .next (s.resetBit 1 .c)

/-- `RES 1,D` (R182). -/
def exec_res_1_d (s : State) : Result := .next (s.resetBit 1 .d)

/-- `RES 1,E` (R182). -/
def exec_res_1_e (s : State) : Result := .next (s.resetBit 1 .e)

/-- `RES 1,H` (R182). -/
def exec_res_1_h (s : State) : Result := .next (s.resetBit 1 .h)

/-- `RES 1,L` (R182). -/
def exec_res_1_l (s : State) : Result := .next (s.resetBit 1 .l)

/-- `RES 1,(HL)` (R182). -/
def exec_res_1_mhl (s : State) : Result := .next (s.resetBit 1 .mhl)

/-- `RES 1,A` (R182). -/
def exec_res_1_a (s : State) : Result := .next (s.resetBit 1 .a)

/-- `RES 2,B` (R182). -/
def exec_res_2_b (s : State) : Result := .next (s.resetBit 2 .b)

/-- `RES 2,C` (R182). -/
def exec_res_2_c (s : State) : Result := .next (s.resetBit 2 .c)

/-- `RES 2,D` (R182). -/
def exec_res_2_d (s : State) : Result := .next (s.resetBit 2 .d)

/-- `RES 2,E` (R182). -/
def exec_res_2_e (s : State) : Result := .next (s.resetBit 2 .e)

/-- `RES 2,H` (R182). -/
def exec_res_2_h (s : State) : Result := .next (s.resetBit 2 .h)

/-- `RES 2,L` (R182). -/
def exec_res_2_l (s : State) : Result := .next (s.resetBit 2 .l)

/-- `RES 2,(HL)` (R182). -/
def exec_res_2_mhl (s : State) : Result := .next (s.resetBit 2 .mhl)

/-- `RES 2,A` (R182). -/
def exec_res_2_a (s : State) : Result := .next (s.resetBit 2 .a)

/-- `RES 3,B` (R182). -/
def exec_res_3_b (s : State) : Result := .next (s.resetBit 3 .b)

/-- `RES 3,C` (R182). -/
def exec_res_3_c (s : State) : Result := .next (s.resetBit 3 .c)

/-- `RES 3,D` (R182). -/
def exec_res_3_d (s : State) : Result := .next (s.resetBit 3 .d)

/-- `RES 3,E` (R182). -/
def exec_res_3_e (s : State) : Result := .next (s.resetBit 3 .e)

/-- `RES 3,H` (R182). -/
def exec_res_3_h (s : State) : Result := .next (s.resetBit 3 .h)

/-- `RES 3,L` (R182). -/
def exec_res_3_l (s : State) : Result := .next (s.resetBit 3 .l)

/-- `RES 3,(HL)` (R182). -/
def exec_res_3_mhl (s : State) : Result := .next (s.resetBit 3 .mhl)

/-- `RES 3,A` (R182). -/
def exec_res_3_a (s : State) : Result := .next (s.resetBit 3 .a)

/-- `RES 4,B` (R182). -/
def exec_res_4_b (s : State) : Result := .next (s.resetBit 4 .b)

/-- `RES 4,C` (R182). -/
def exec_res_4_c (s : State) : Result := .next (s.resetBit 4 .c)

/-- `RES 4,D` (R182). -/
def exec_res_4_d (s : State) : Result := .next (s.resetBit 4 .d)

/-- `RES 4,E` (R182). -/
def exec_res_4_e (s : State) : Result := .next (s.resetBit 4 .e)

/-- `RES 4,H` (R182). -/
def exec_res_4_h (s : State) : Result := .next (s.resetBit 4 .h)

/-- `RES 4,L` (R182). -/
def exec_res_4_l (s : State) : Result := .next (s.resetBit 4 .l)

/-- `RES 4,(HL)` (R182). -/
def exec_res_4_mhl (s : State) : Result := .next (s.resetBit 4 .mhl)

/-- `RES 4,A` (R182). -/
def exec_res_4_a (s : State) : Result := .next (s.resetBit 4 .a)

/-- `RES 5,B` (R182). -/
def exec_res_5_b (s : State) : Result := .next (s.resetBit 5 .b)

/-- `RES 5,C` (R182). -/
def exec_res_5_c (s : State) : Result := .next (s.resetBit 5 .c)

/-- `RES 5,D` (R182). -/
def exec_res_5_d (s : State) : Result := .next (s.resetBit 5 .d)

/-- `RES 5,E` (R182). -/
def exec_res_5_e (s : State) : Result := .next (s.resetBit 5 .e)

/-- `RES 5,H` (R182). -/
def exec_res_5_h (s : State) : Result := .next (s.resetBit 5 .h)

/-- `RES 5,L` (R182). -/
def exec_res_5_l (s : State) : Result := .next (s.resetBit 5 .l)

/-- `RES 5,(HL)` (R182). -/
def exec_res_5_mhl (s : State) : Result := .next (s.resetBit 5 .mhl)

/-- `RES 5,A` (R182). -/
def exec_res_5_a (s : State) : Result := .next (s.resetBit 5 .a)

/-- `RES 6,B` (R182). -/
def exec_res_6_b (s : State) : Result := .next (s.resetBit 6 .b)

/-- `RES 6,C` (R182). -/
def exec_res_6_c (s : State) : Result := .next (s.resetBit 6 .c)

/-- `RES 6,D` (R182). -/
def exec_res_6_d (s : State) : Result := .next (s.resetBit 6 .d)

/-- `RES 6,E` (R182). -/
def exec_res_6_e (s : State) : Result := .next (s.resetBit 6 .e)

/-- `RES 6,H` (R182). -/
def exec_res_6_h (s : State) : Result := .next (s.resetBit 6 .h)

/-- `RES 6,L` (R182). -/
def exec_res_6_l (s : State) : Result := .next (s.resetBit 6 .l)

/-- `RES 6,(HL)` (R182). -/
def exec_res_6_mhl (s : State) : Result := .next (s.resetBit 6 .mhl)

/-- `RES 6,A` (R182). -/
def exec_res_6_a (s : State) : Result := .next (s.resetBit 6 .a)

/-- `RES 7,B` (R182). -/
def exec_res_7_b (s : State) : Result := .next (s.resetBit 7 .b)

/-- `RES 7,C` (R182). -/
def exec_res_7_c (s : State) : Result := .next (s.resetBit 7 .c)

/-- `RES 7,D` (R182). -/
def exec_res_7_d (s : State) : Result := .next (s.resetBit 7 .d)

/-- `RES 7,E` (R182). -/
def exec_res_7_e (s : State) : Result := .next (s.resetBit 7 .e)

/-- `RES 7,H` (R182). -/
def exec_res_7_h (s : State) : Result := .next (s.resetBit 7 .h)

/-- `RES 7,L` (R182). -/
def exec_res_7_l (s : State) : Result := .next (s.resetBit 7 .l)

/-- `RES 7,(HL)` (R182). -/
def exec_res_7_mhl (s : State) : Result := .next (s.resetBit 7 .mhl)

/-- `RES 7,A` (R182). -/
def exec_res_7_a (s : State) : Result := .next (s.resetBit 7 .a)

/-- `SET 0,B` (R181). -/
def exec_set_0_b (s : State) : Result := .next (s.setBit8 0 .b)

/-- `SET 0,C` (R181). -/
def exec_set_0_c (s : State) : Result := .next (s.setBit8 0 .c)

/-- `SET 0,D` (R181). -/
def exec_set_0_d (s : State) : Result := .next (s.setBit8 0 .d)

/-- `SET 0,E` (R181). -/
def exec_set_0_e (s : State) : Result := .next (s.setBit8 0 .e)

/-- `SET 0,H` (R181). -/
def exec_set_0_h (s : State) : Result := .next (s.setBit8 0 .h)

/-- `SET 0,L` (R181). -/
def exec_set_0_l (s : State) : Result := .next (s.setBit8 0 .l)

/-- `SET 0,(HL)` (R181). -/
def exec_set_0_mhl (s : State) : Result := .next (s.setBit8 0 .mhl)

/-- `SET 0,A` (R181). -/
def exec_set_0_a (s : State) : Result := .next (s.setBit8 0 .a)

/-- `SET 1,B` (R181). -/
def exec_set_1_b (s : State) : Result := .next (s.setBit8 1 .b)

/-- `SET 1,C` (R181). -/
def exec_set_1_c (s : State) : Result := .next (s.setBit8 1 .c)

/-- `SET 1,D` (R181). -/
def exec_set_1_d (s : State) : Result := .next (s.setBit8 1 .d)

/-- `SET 1,E` (R181). -/
def exec_set_1_e (s : State) : Result := .next (s.setBit8 1 .e)

/-- `SET 1,H` (R181). -/
def exec_set_1_h (s : State) : Result := .next (s.setBit8 1 .h)

/-- `SET 1,L` (R181). -/
def exec_set_1_l (s : State) : Result := .next (s.setBit8 1 .l)

/-- `SET 1,(HL)` (R181). -/
def exec_set_1_mhl (s : State) : Result := .next (s.setBit8 1 .mhl)

/-- `SET 1,A` (R181). -/
def exec_set_1_a (s : State) : Result := .next (s.setBit8 1 .a)

/-- `SET 2,B` (R181). -/
def exec_set_2_b (s : State) : Result := .next (s.setBit8 2 .b)

/-- `SET 2,C` (R181). -/
def exec_set_2_c (s : State) : Result := .next (s.setBit8 2 .c)

/-- `SET 2,D` (R181). -/
def exec_set_2_d (s : State) : Result := .next (s.setBit8 2 .d)

/-- `SET 2,E` (R181). -/
def exec_set_2_e (s : State) : Result := .next (s.setBit8 2 .e)

/-- `SET 2,H` (R181). -/
def exec_set_2_h (s : State) : Result := .next (s.setBit8 2 .h)

/-- `SET 2,L` (R181). -/
def exec_set_2_l (s : State) : Result := .next (s.setBit8 2 .l)

/-- `SET 2,(HL)` (R181). -/
def exec_set_2_mhl (s : State) : Result := .next (s.setBit8 2 .mhl)

/-- `SET 2,A` (R181). -/
def exec_set_2_a (s : State) : Result := .next (s.setBit8 2 .a)

/-- `SET 3,B` (R181). -/
def exec_set_3_b (s : State) : Result := .next (s.setBit8 3 .b)

/-- `SET 3,C` (R181). -/
def exec_set_3_c (s : State) : Result := .next (s.setBit8 3 .c)

/-- `SET 3,D` (R181). -/
def exec_set_3_d (s : State) : Result := .next (s.setBit8 3 .d)

/-- `SET 3,E` (R181). -/
def exec_set_3_e (s : State) : Result := .next (s.setBit8 3 .e)

/-- `SET 3,H` (R181). -/
def exec_set_3_h (s : State) : Result := .next (s.setBit8 3 .h)

/-- `SET 3,L` (R181). -/
def exec_set_3_l (s : State) : Result := .next (s.setBit8 3 .l)

/-- `SET 3,(HL)` (R181). -/
def exec_set_3_mhl (s : State) : Result := .next (s.setBit8 3 .mhl)

/-- `SET 3,A` (R181). -/
def exec_set_3_a (s : State) : Result := .next (s.setBit8 3 .a)

/-- `SET 4,B` (R181). -/
def exec_set_4_b (s : State) : Result := .next (s.setBit8 4 .b)

/-- `SET 4,C` (R181). -/
def exec_set_4_c (s : State) : Result := .next (s.setBit8 4 .c)

/-- `SET 4,D` (R181). -/
def exec_set_4_d (s : State) : Result := .next (s.setBit8 4 .d)

/-- `SET 4,E` (R181). -/
def exec_set_4_e (s : State) : Result := .next (s.setBit8 4 .e)

/-- `SET 4,H` (R181). -/
def exec_set_4_h (s : State) : Result := .next (s.setBit8 4 .h)

/-- `SET 4,L` (R181). -/
def exec_set_4_l (s : State) : Result := .next (s.setBit8 4 .l)

/-- `SET 4,(HL)` (R181). -/
def exec_set_4_mhl (s : State) : Result := .next (s.setBit8 4 .mhl)

/-- `SET 4,A` (R181). -/
def exec_set_4_a (s : State) : Result := .next (s.setBit8 4 .a)

/-- `SET 5,B` (R181). -/
def exec_set_5_b (s : State) : Result := .next (s.setBit8 5 .b)

/-- `SET 5,C` (R181). -/
def exec_set_5_c (s : State) : Result := .next (s.setBit8 5 .c)

/-- `SET 5,D` (R181). -/
def exec_set_5_d (s : State) : Result := .next (s.setBit8 5 .d)

/-- `SET 5,E` (R181). -/
def exec_set_5_e (s : State) : Result := .next (s.setBit8 5 .e)

/-- `SET 5,H` (R181). -/
def exec_set_5_h (s : State) : Result := .next (s.setBit8 5 .h)

/-- `SET 5,L` (R181). -/
def exec_set_5_l (s : State) : Result := .next (s.setBit8 5 .l)

/-- `SET 5,(HL)` (R181). -/
def exec_set_5_mhl (s : State) : Result := .next (s.setBit8 5 .mhl)

/-- `SET 5,A` (R181). -/
def exec_set_5_a (s : State) : Result := .next (s.setBit8 5 .a)

/-- `SET 6,B` (R181). -/
def exec_set_6_b (s : State) : Result := .next (s.setBit8 6 .b)

/-- `SET 6,C` (R181). -/
def exec_set_6_c (s : State) : Result := .next (s.setBit8 6 .c)

/-- `SET 6,D` (R181). -/
def exec_set_6_d (s : State) : Result := .next (s.setBit8 6 .d)

/-- `SET 6,E` (R181). -/
def exec_set_6_e (s : State) : Result := .next (s.setBit8 6 .e)

/-- `SET 6,H` (R181). -/
def exec_set_6_h (s : State) : Result := .next (s.setBit8 6 .h)

/-- `SET 6,L` (R181). -/
def exec_set_6_l (s : State) : Result := .next (s.setBit8 6 .l)

/-- `SET 6,(HL)` (R181). -/
def exec_set_6_mhl (s : State) : Result := .next (s.setBit8 6 .mhl)

/-- `SET 6,A` (R181). -/
def exec_set_6_a (s : State) : Result := .next (s.setBit8 6 .a)

/-- `SET 7,B` (R181). -/
def exec_set_7_b (s : State) : Result := .next (s.setBit8 7 .b)

/-- `SET 7,C` (R181). -/
def exec_set_7_c (s : State) : Result := .next (s.setBit8 7 .c)

/-- `SET 7,D` (R181). -/
def exec_set_7_d (s : State) : Result := .next (s.setBit8 7 .d)

/-- `SET 7,E` (R181). -/
def exec_set_7_e (s : State) : Result := .next (s.setBit8 7 .e)

/-- `SET 7,H` (R181). -/
def exec_set_7_h (s : State) : Result := .next (s.setBit8 7 .h)

/-- `SET 7,L` (R181). -/
def exec_set_7_l (s : State) : Result := .next (s.setBit8 7 .l)

/-- `SET 7,(HL)` (R181). -/
def exec_set_7_mhl (s : State) : Result := .next (s.setBit8 7 .mhl)

/-- `SET 7,A` (R181). -/
def exec_set_7_a (s : State) : Result := .next (s.setBit8 7 .a)

end Sys2Proof.Machine
end

