-- ==== Sys2Proof/Machine/Calls.lean ====
section
/-! DEFINITION. Calls and restarts (48_calls_restarts.md). None writes a flag. One meaning per row of
the opcode table, over the shared operations that stand first. Each ends with `pc <- pcn` unless its
rule says otherwise, and none can fault (R220). -/

namespace Sys2Proof.Machine

/-- `push16(pcn); pc <- target` by an instruction of `len` bytes (R200, R202). -/
def State.call (s : State) (target len : Word) : State := (s.push16 (s.next len)).jump target

/-- `if cond(cc) then { push16(pcn); pc <- imm16 } else pc <- pcn` (R201). -/
def State.callIf (s : State) (cc : Cond) (nn : Word) : State := if s.cond cc then s.call nn 3 else s.advance 3

/-! ## The meanings -/

/-- `CALL NZ,nn` (R201). -/
def exec_call_nz_nn (nn : Word) (s : State) : Result := .next (s.callIf .nz nn)

/-- `RST 00H` (R202). -/
def exec_rst_00 (s : State) : Result := .next (s.call 0x00 1)

/-- `CALL Z,nn` (R201). -/
def exec_call_z_nn (nn : Word) (s : State) : Result := .next (s.callIf .z nn)

/-- `CALL nn` (R200). -/
def exec_call_nn (nn : Word) (s : State) : Result := .next (s.call nn 3)

/-- `RST 08H` (R202). -/
def exec_rst_08 (s : State) : Result := .next (s.call 0x08 1)

/-- `CALL NC,nn` (R201). -/
def exec_call_nc_nn (nn : Word) (s : State) : Result := .next (s.callIf .nc nn)

/-- `RST 10H` (R202). -/
def exec_rst_10 (s : State) : Result := .next (s.call 0x10 1)

/-- `CALL C,nn` (R201). -/
def exec_call_c_nn (nn : Word) (s : State) : Result := .next (s.callIf .c nn)

/-- `RST 18H` (R202). -/
def exec_rst_18 (s : State) : Result := .next (s.call 0x18 1)

/-- `RST 20H` (R202). -/
def exec_rst_20 (s : State) : Result := .next (s.call 0x20 1)

/-- `RST 28H` (R202). -/
def exec_rst_28 (s : State) : Result := .next (s.call 0x28 1)

/-- `RST 30H` (R202). -/
def exec_rst_30 (s : State) : Result := .next (s.call 0x30 1)

/-- `RST 38H` (R202). -/
def exec_rst_38 (s : State) : Result := .next (s.call 0x38 1)

end Sys2Proof.Machine
end

