-- ==== Sys2Proof/Machine/Jumps.lean ====
section
/-! DEFINITION. Jumps (47_jumps.md). None writes a flag or touches the stack. One meaning per row of
the opcode table, over the shared operations that stand first. Each ends with `pc <- pcn` unless its
rule says otherwise, and none can fault (R220). -/

namespace Sys2Proof.Machine

/-- `if cond(cc) then pc <- imm16 else pc <- pcn` (R193). -/
def State.jumpIf (s : State) (cc : Cond) (nn : Word) : State := if s.cond cc then s.jump nn else s.advance 3

/-- `pc <- pcn + sext_16(imm8)` (R194). -/
def State.jumpRel (s : State) (e8 : Byte) : State := s.jump (s.next 2 + sext16 e8)

/-- `if cond(cc) then pc <- pcn + sext_16(imm8) else pc <- pcn` (R195). -/
def State.jumpRelIf (s : State) (cc : Cond) (e8 : Byte) : State := if s.cond cc then s.jumpRel e8 else s.advance 2

/-! ## The meanings -/

/-- `JR n` (R194). -/
def exec_jr_e8 (e8 : Byte) (s : State) : Result := .next (s.jumpRel e8)

/-- `JR NZ,n` (R195). -/
def exec_jr_nz_e8 (e8 : Byte) (s : State) : Result := .next (s.jumpRelIf .nz e8)

/-- `JR Z,n` (R195). -/
def exec_jr_z_e8 (e8 : Byte) (s : State) : Result := .next (s.jumpRelIf .z e8)

/-- `JR NC,n` (R195). -/
def exec_jr_nc_e8 (e8 : Byte) (s : State) : Result := .next (s.jumpRelIf .nc e8)

/-- `JR C,n` (R195). -/
def exec_jr_c_e8 (e8 : Byte) (s : State) : Result := .next (s.jumpRelIf .c e8)

/-- `JP NZ,nn` (R193). -/
def exec_jp_nz_nn (nn : Word) (s : State) : Result := .next (s.jumpIf .nz nn)

/-- `JP nn` (R190). -/
def exec_jp_nn (nn : Word) (s : State) : Result := .next (s.jump nn)

/-- `JP Z,nn` (R193). -/
def exec_jp_z_nn (nn : Word) (s : State) : Result := .next (s.jumpIf .z nn)

/-- `JP NC,nn` (R193). -/
def exec_jp_nc_nn (nn : Word) (s : State) : Result := .next (s.jumpIf .nc nn)

/-- `JP C,nn` (R193). -/
def exec_jp_c_nn (nn : Word) (s : State) : Result := .next (s.jumpIf .c nn)

/-- `JP (HL)` (R192). -/
def exec_jp_hl (s : State) : Result := .next (s.jump s.hl)

end Sys2Proof.Machine
end

