-- ==== Sys2Proof/Machine/Loads16.lean ====
section
/-! DEFINITION. 16-bit loads, PUSH and POP (41_loads16.md). One meaning per row of
the opcode table, over the shared operations that stand first. Each ends with `pc <- pcn` unless its
rule says otherwise, and none can fault (R220). -/

namespace Sys2Proof.Machine

/-- `rr <- imm16` (R100). -/
def State.loadPair (s : State) (p : Pair) (nn : Word) : State := (s.setPair p nn).advance 3

/-- `HL <- SP + sext_16(e)` and the flags (R102). -/
def State.loadHlSp (s : State) (e8 : Byte) : State :=
  let r := addSpResult s.sp e8
  ((s.setHL r.1).setFlags r.2).advance 2

/-- Store SP at `nn`, low byte first (R103). -/
def State.storeSP (s : State) (nn : Word) : State :=
  ((s.memWrite nn (loByte s.sp)).memWrite (nn + 1) (hiByte s.sp)).advance 3

/-- `push16(rr)` (R105). -/
def State.push (s : State) (p : StackPair) : State := (s.push16 (s.getStackPair p)).advance 1

/-- `rr <- pop16()` (R106). -/
def State.pop (s : State) (p : StackPair) : State :=
  let r := s.pop16
  (r.2.setStackPair p r.1).advance 1

/-! ## The meanings -/

/-- `LD BC,nn` (R100). -/
def exec_ld_bc_nn (nn : Word) (s : State) : Result := .next (s.loadPair .bc nn)

/-- `LD (nn),SP` (R103). -/
def exec_ld_mnn_sp (nn : Word) (s : State) : Result := .next (s.storeSP nn)

/-- `LD DE,nn` (R100). -/
def exec_ld_de_nn (nn : Word) (s : State) : Result := .next (s.loadPair .de nn)

/-- `LD HL,nn` (R100). -/
def exec_ld_hl_nn (nn : Word) (s : State) : Result := .next (s.loadPair .hl nn)

/-- `LD SP,nn` (R100). -/
def exec_ld_sp_nn (nn : Word) (s : State) : Result := .next (s.loadPair .sp nn)

/-- `POP BC` (R106). -/
def exec_pop_bc (s : State) : Result := .next (s.pop .bc)

/-- `PUSH BC` (R105). -/
def exec_push_bc (s : State) : Result := .next (s.push .bc)

/-- `POP DE` (R106). -/
def exec_pop_de (s : State) : Result := .next (s.pop .de)

/-- `PUSH DE` (R105). -/
def exec_push_de (s : State) : Result := .next (s.push .de)

/-- `POP HL` (R106). -/
def exec_pop_hl (s : State) : Result := .next (s.pop .hl)

/-- `PUSH HL` (R105). -/
def exec_push_hl (s : State) : Result := .next (s.push .hl)

/-- `POP AF` (R106). -/
def exec_pop_af (s : State) : Result := .next (s.pop .af)

/-- `PUSH AF` (R105). -/
def exec_push_af (s : State) : Result := .next (s.push .af)

/-- `LDHL SP,n` (R102). -/
def exec_ldhl_sp_e8 (e8 : Byte) (s : State) : Result := .next (s.loadHlSp e8)

/-- `LD SP,HL` (R101). -/
def exec_ld_sp_hl (s : State) : Result := .next ((s.setSP s.hl).advance 1)

end Sys2Proof.Machine
end

