-- ==== Sys2Proof/Machine/Loads8.lean ====
section
/-! DEFINITION. 8-bit loads (40_loads8.md). None writes a flag (R90). One meaning per row of
the opcode table, over the shared operations that stand first. Each ends with `pc <- pcn` unless its
rule says otherwise, and none can fault (R220). -/

namespace Sys2Proof.Machine

/-- `LD r1,r2` in every register and (HL) form (R71 to R73): the source is read before the
destination is written, so an address in HL is the old one (R72). -/
def State.load8 (s : State) (dst src : Opnd8) : State :=
  let r := s.rd8 src
  (r.2.wr8 dst r.1).advance 1

/-- A load of an immediate byte (R70, R74, R78). -/
def State.loadImm8 (s : State) (dst : Opnd8) (n : Byte) : State := (s.wr8 dst n).advance 2

/-- `A <- MemRead(addr, 1)` by an instruction of `len` bytes (R75 to R77, R82, R89). -/
def State.loadA (s : State) (addr len : Word) : State :=
  let r := s.memRead addr
  (r.2.setA r.1).advance len

/-- `MemWrite(addr, 1, A)` by an instruction of `len` bytes (R79 to R81, R83, R88). -/
def State.storeA (s : State) (addr len : Word) : State := (s.memWrite addr s.a).advance len

/-- `A <- MemRead(HL, 1); HL <- HL + delta` (LDD, R84; LDI, R86). -/
def State.loadAStep (s : State) (delta : Word) : State :=
  let r := s.memRead s.hl
  ((r.2.setA r.1).setHL (s.hl + delta)).advance 1

/-- `MemWrite(HL, 1, A); HL <- HL + delta` (LDD, R85; LDI, R87). -/
def State.storeAStep (s : State) (delta : Word) : State :=
  ((s.memWrite s.hl s.a).setHL (s.hl + delta)).advance 1

/-! ## The meanings -/

/-- `LD (BC),A` (R79). -/
def exec_ld_mbc_a (s : State) : Result := .next (s.storeA s.bc 1)

/-- `LD B,n` (R70). -/
def exec_ld_b_n (n : Byte) (s : State) : Result := .next (s.loadImm8 .b n)

/-- `LD A,(BC)` (R75). -/
def exec_ld_a_mbc (s : State) : Result := .next (s.loadA s.bc 1)

/-- `LD C,n` (R70). -/
def exec_ld_c_n (n : Byte) (s : State) : Result := .next (s.loadImm8 .c n)

/-- `LD (DE),A` (R80). -/
def exec_ld_mde_a (s : State) : Result := .next (s.storeA s.de 1)

/-- `LD D,n` (R70). -/
def exec_ld_d_n (n : Byte) (s : State) : Result := .next (s.loadImm8 .d n)

/-- `LD A,(DE)` (R76). -/
def exec_ld_a_mde (s : State) : Result := .next (s.loadA s.de 1)

/-- `LD E,n` (R70). -/
def exec_ld_e_n (n : Byte) (s : State) : Result := .next (s.loadImm8 .e n)

/-- `LDI (HL),A` (R87). -/
def exec_ldi_mhl_a (s : State) : Result := .next (s.storeAStep 1)

/-- `LD H,n` (R70). -/
def exec_ld_h_n (n : Byte) (s : State) : Result := .next (s.loadImm8 .h n)

/-- `LDI A,(HL)` (R86). -/
def exec_ldi_a_mhl (s : State) : Result := .next (s.loadAStep 1)

/-- `LD L,n` (R70). -/
def exec_ld_l_n (n : Byte) (s : State) : Result := .next (s.loadImm8 .l n)

/-- `LDD (HL),A` (R85). -/
def exec_ldd_mhl_a (s : State) : Result := .next (s.storeAStep (-1))

/-- `LD (HL),n` (R74). -/
def exec_ld_mhl_n (n : Byte) (s : State) : Result := .next (s.loadImm8 .mhl n)

/-- `LDD A,(HL)` (R84). -/
def exec_ldd_a_mhl (s : State) : Result := .next (s.loadAStep (-1))

/-- `LD A,#` (R78). -/
def exec_ld_a_n (n : Byte) (s : State) : Result := .next (s.loadImm8 .a n)

/-- `LD B,B` (R71). -/
def exec_ld_b_b (s : State) : Result := .next (s.load8 .b .b)

/-- `LD B,C` (R71). -/
def exec_ld_b_c (s : State) : Result := .next (s.load8 .b .c)

/-- `LD B,D` (R71). -/
def exec_ld_b_d (s : State) : Result := .next (s.load8 .b .d)

/-- `LD B,E` (R71). -/
def exec_ld_b_e (s : State) : Result := .next (s.load8 .b .e)

/-- `LD B,H` (R71). -/
def exec_ld_b_h (s : State) : Result := .next (s.load8 .b .h)

/-- `LD B,L` (R71). -/
def exec_ld_b_l (s : State) : Result := .next (s.load8 .b .l)

/-- `LD B,(HL)` (R72). -/
def exec_ld_b_mhl (s : State) : Result := .next (s.load8 .b .mhl)

/-- `LD B,A` (R71). -/
def exec_ld_b_a (s : State) : Result := .next (s.load8 .b .a)

/-- `LD C,B` (R71). -/
def exec_ld_c_b (s : State) : Result := .next (s.load8 .c .b)

/-- `LD C,C` (R71). -/
def exec_ld_c_c (s : State) : Result := .next (s.load8 .c .c)

/-- `LD C,D` (R71). -/
def exec_ld_c_d (s : State) : Result := .next (s.load8 .c .d)

/-- `LD C,E` (R71). -/
def exec_ld_c_e (s : State) : Result := .next (s.load8 .c .e)

/-- `LD C,H` (R71). -/
def exec_ld_c_h (s : State) : Result := .next (s.load8 .c .h)

/-- `LD C,L` (R71). -/
def exec_ld_c_l (s : State) : Result := .next (s.load8 .c .l)

/-- `LD C,(HL)` (R72). -/
def exec_ld_c_mhl (s : State) : Result := .next (s.load8 .c .mhl)

/-- `LD C,A` (R71). -/
def exec_ld_c_a (s : State) : Result := .next (s.load8 .c .a)

/-- `LD D,B` (R71). -/
def exec_ld_d_b (s : State) : Result := .next (s.load8 .d .b)

/-- `LD D,C` (R71). -/
def exec_ld_d_c (s : State) : Result := .next (s.load8 .d .c)

/-- `LD D,D` (R71). -/
def exec_ld_d_d (s : State) : Result := .next (s.load8 .d .d)

/-- `LD D,E` (R71). -/
def exec_ld_d_e (s : State) : Result := .next (s.load8 .d .e)

/-- `LD D,H` (R71). -/
def exec_ld_d_h (s : State) : Result := .next (s.load8 .d .h)

/-- `LD D,L` (R71). -/
def exec_ld_d_l (s : State) : Result := .next (s.load8 .d .l)

/-- `LD D,(HL)` (R72). -/
def exec_ld_d_mhl (s : State) : Result := .next (s.load8 .d .mhl)

/-- `LD D,A` (R71). -/
def exec_ld_d_a (s : State) : Result := .next (s.load8 .d .a)

/-- `LD E,B` (R71). -/
def exec_ld_e_b (s : State) : Result := .next (s.load8 .e .b)

/-- `LD E,C` (R71). -/
def exec_ld_e_c (s : State) : Result := .next (s.load8 .e .c)

/-- `LD E,D` (R71). -/
def exec_ld_e_d (s : State) : Result := .next (s.load8 .e .d)

/-- `LD E,E` (R71). -/
def exec_ld_e_e (s : State) : Result := .next (s.load8 .e .e)

/-- `LD E,H` (R71). -/
def exec_ld_e_h (s : State) : Result := .next (s.load8 .e .h)

/-- `LD E,L` (R71). -/
def exec_ld_e_l (s : State) : Result := .next (s.load8 .e .l)

/-- `LD E,(HL)` (R72). -/
def exec_ld_e_mhl (s : State) : Result := .next (s.load8 .e .mhl)

/-- `LD E,A` (R71). -/
def exec_ld_e_a (s : State) : Result := .next (s.load8 .e .a)

/-- `LD H,B` (R71). -/
def exec_ld_h_b (s : State) : Result := .next (s.load8 .h .b)

/-- `LD H,C` (R71). -/
def exec_ld_h_c (s : State) : Result := .next (s.load8 .h .c)

/-- `LD H,D` (R71). -/
def exec_ld_h_d (s : State) : Result := .next (s.load8 .h .d)

/-- `LD H,E` (R71). -/
def exec_ld_h_e (s : State) : Result := .next (s.load8 .h .e)

/-- `LD H,H` (R71). -/
def exec_ld_h_h (s : State) : Result := .next (s.load8 .h .h)

/-- `LD H,L` (R71). -/
def exec_ld_h_l (s : State) : Result := .next (s.load8 .h .l)

/-- `LD H,(HL)` (R72). -/
def exec_ld_h_mhl (s : State) : Result := .next (s.load8 .h .mhl)

/-- `LD H,A` (R71). -/
def exec_ld_h_a (s : State) : Result := .next (s.load8 .h .a)

/-- `LD L,B` (R71). -/
def exec_ld_l_b (s : State) : Result := .next (s.load8 .l .b)

/-- `LD L,C` (R71). -/
def exec_ld_l_c (s : State) : Result := .next (s.load8 .l .c)

/-- `LD L,D` (R71). -/
def exec_ld_l_d (s : State) : Result := .next (s.load8 .l .d)

/-- `LD L,E` (R71). -/
def exec_ld_l_e (s : State) : Result := .next (s.load8 .l .e)

/-- `LD L,H` (R71). -/
def exec_ld_l_h (s : State) : Result := .next (s.load8 .l .h)

/-- `LD L,L` (R71). -/
def exec_ld_l_l (s : State) : Result := .next (s.load8 .l .l)

/-- `LD L,(HL)` (R72). -/
def exec_ld_l_mhl (s : State) : Result := .next (s.load8 .l .mhl)

/-- `LD L,A` (R71). -/
def exec_ld_l_a (s : State) : Result := .next (s.load8 .l .a)

/-- `LD (HL),B` (R73). -/
def exec_ld_mhl_b (s : State) : Result := .next (s.load8 .mhl .b)

/-- `LD (HL),C` (R73). -/
def exec_ld_mhl_c (s : State) : Result := .next (s.load8 .mhl .c)

/-- `LD (HL),D` (R73). -/
def exec_ld_mhl_d (s : State) : Result := .next (s.load8 .mhl .d)

/-- `LD (HL),E` (R73). -/
def exec_ld_mhl_e (s : State) : Result := .next (s.load8 .mhl .e)

/-- `LD (HL),H` (R73). -/
def exec_ld_mhl_h (s : State) : Result := .next (s.load8 .mhl .h)

/-- `LD (HL),L` (R73). -/
def exec_ld_mhl_l (s : State) : Result := .next (s.load8 .mhl .l)

/-- `LD (HL),A` (R73). -/
def exec_ld_mhl_a (s : State) : Result := .next (s.load8 .mhl .a)

/-- `LD A,B` (R71). -/
def exec_ld_a_b (s : State) : Result := .next (s.load8 .a .b)

/-- `LD A,C` (R71). -/
def exec_ld_a_c (s : State) : Result := .next (s.load8 .a .c)

/-- `LD A,D` (R71). -/
def exec_ld_a_d (s : State) : Result := .next (s.load8 .a .d)

/-- `LD A,E` (R71). -/
def exec_ld_a_e (s : State) : Result := .next (s.load8 .a .e)

/-- `LD A,H` (R71). -/
def exec_ld_a_h (s : State) : Result := .next (s.load8 .a .h)

/-- `LD A,L` (R71). -/
def exec_ld_a_l (s : State) : Result := .next (s.load8 .a .l)

/-- `LD A,(HL)` (R72). -/
def exec_ld_a_mhl (s : State) : Result := .next (s.load8 .a .mhl)

/-- `LD A,A` (R71). -/
def exec_ld_a_a (s : State) : Result := .next (s.load8 .a .a)

/-- `LDH (n),A` (R88). -/
def exec_ldh_mn_a (n : Byte) (s : State) : Result := .next (s.storeA (highPage n) 2)

/-- `LD (C),A` (R83). -/
def exec_ld_mc_a (s : State) : Result := .next (s.storeA (highPage s.c) 1)

/-- `LD (nn),A` (R81). -/
def exec_ld_mnn_a (nn : Word) (s : State) : Result := .next (s.storeA nn 3)

/-- `LDH A,(n)` (R89). -/
def exec_ldh_a_mn (n : Byte) (s : State) : Result := .next (s.loadA (highPage n) 2)

/-- `LD A,(C)` (R82). -/
def exec_ld_a_mc (s : State) : Result := .next (s.loadA (highPage s.c) 1)

/-- `LD A,(nn)` (R77). -/
def exec_ld_a_mnn (nn : Word) (s : State) : Result := .next (s.loadA nn 3)

end Sys2Proof.Machine
end

