-- ==== Sys2Proof/Machine/Rotates.lean ====
section
/-! DEFINITION. Rotates and shifts (45_rotates_shifts.md). One meaning per row of
the opcode table, over the shared operations that stand first. Each ends with `pc <- pcn` unless its
rule says otherwise, and none can fault (R220). -/

namespace Sys2Proof.Machine

/-- A rotate, shift or swap behind the CB prefix: one read, one write, Z always from the result (R164 to
R170, R140, R34). -/
def State.shift8 (s : State) (op : ShiftOp) (o : Opnd8) : State :=
  let r := s.rd8 o
  let w := shiftResult op r.1 s.fC
  ((r.2.wr8 o w.1).setFlags (shiftFlags w.1 w.2)).advance 2

/-- A one-byte rotate of A: Z follows `ROT_A_Z` (R160 to R163). -/
def State.rotateA (s : State) (op : RotAOp) : State :=
  let w := shiftResult (rotAShift op) s.a s.fC
  ((s.setA w.1).setFlags { shiftFlags w.1 w.2 with z := rotAZero s.params.rotAZ w.1 }).advance 1

/-! ## The meanings -/

/-- `RLCA` (R160). -/
def exec_rlca (s : State) : Result := .next (s.rotateA .rlca)

/-- `RRCA` (R162). -/
def exec_rrca (s : State) : Result := .next (s.rotateA .rrca)

/-- `RLA` (R161). -/
def exec_rla (s : State) : Result := .next (s.rotateA .rla)

/-- `RRA` (R163). -/
def exec_rra (s : State) : Result := .next (s.rotateA .rra)

/-- `RLC B` (R164). -/
def exec_rlc_b (s : State) : Result := .next (s.shift8 .rlc .b)

/-- `RLC C` (R164). -/
def exec_rlc_c (s : State) : Result := .next (s.shift8 .rlc .c)

/-- `RLC D` (R164). -/
def exec_rlc_d (s : State) : Result := .next (s.shift8 .rlc .d)

/-- `RLC E` (R164). -/
def exec_rlc_e (s : State) : Result := .next (s.shift8 .rlc .e)

/-- `RLC H` (R164). -/
def exec_rlc_h (s : State) : Result := .next (s.shift8 .rlc .h)

/-- `RLC L` (R164). -/
def exec_rlc_l (s : State) : Result := .next (s.shift8 .rlc .l)

/-- `RLC (HL)` (R164). -/
def exec_rlc_mhl (s : State) : Result := .next (s.shift8 .rlc .mhl)

/-- `RLC A` (R164). -/
def exec_rlc_a (s : State) : Result := .next (s.shift8 .rlc .a)

/-- `RRC B` (R166). -/
def exec_rrc_b (s : State) : Result := .next (s.shift8 .rrc .b)

/-- `RRC C` (R166). -/
def exec_rrc_c (s : State) : Result := .next (s.shift8 .rrc .c)

/-- `RRC D` (R166). -/
def exec_rrc_d (s : State) : Result := .next (s.shift8 .rrc .d)

/-- `RRC E` (R166). -/
def exec_rrc_e (s : State) : Result := .next (s.shift8 .rrc .e)

/-- `RRC H` (R166). -/
def exec_rrc_h (s : State) : Result := .next (s.shift8 .rrc .h)

/-- `RRC L` (R166). -/
def exec_rrc_l (s : State) : Result := .next (s.shift8 .rrc .l)

/-- `RRC (HL)` (R166). -/
def exec_rrc_mhl (s : State) : Result := .next (s.shift8 .rrc .mhl)

/-- `RRC A` (R166). -/
def exec_rrc_a (s : State) : Result := .next (s.shift8 .rrc .a)

/-- `RL B` (R165). -/
def exec_rl_b (s : State) : Result := .next (s.shift8 .rl .b)

/-- `RL C` (R165). -/
def exec_rl_c (s : State) : Result := .next (s.shift8 .rl .c)

/-- `RL D` (R165). -/
def exec_rl_d (s : State) : Result := .next (s.shift8 .rl .d)

/-- `RL E` (R165). -/
def exec_rl_e (s : State) : Result := .next (s.shift8 .rl .e)

/-- `RL H` (R165). -/
def exec_rl_h (s : State) : Result := .next (s.shift8 .rl .h)

/-- `RL L` (R165). -/
def exec_rl_l (s : State) : Result := .next (s.shift8 .rl .l)

/-- `RL (HL)` (R165). -/
def exec_rl_mhl (s : State) : Result := .next (s.shift8 .rl .mhl)

/-- `RL A` (R165). -/
def exec_rl_a (s : State) : Result := .next (s.shift8 .rl .a)

/-- `RR B` (R167). -/
def exec_rr_b (s : State) : Result := .next (s.shift8 .rr .b)

/-- `RR C` (R167). -/
def exec_rr_c (s : State) : Result := .next (s.shift8 .rr .c)

/-- `RR D` (R167). -/
def exec_rr_d (s : State) : Result := .next (s.shift8 .rr .d)

/-- `RR E` (R167). -/
def exec_rr_e (s : State) : Result := .next (s.shift8 .rr .e)

/-- `RR H` (R167). -/
def exec_rr_h (s : State) : Result := .next (s.shift8 .rr .h)

/-- `RR L` (R167). -/
def exec_rr_l (s : State) : Result := .next (s.shift8 .rr .l)

/-- `RR (HL)` (R167). -/
def exec_rr_mhl (s : State) : Result := .next (s.shift8 .rr .mhl)

/-- `RR A` (R167). -/
def exec_rr_a (s : State) : Result := .next (s.shift8 .rr .a)

/-- `SLA B` (R168). -/
def exec_sla_b (s : State) : Result := .next (s.shift8 .sla .b)

/-- `SLA C` (R168). -/
def exec_sla_c (s : State) : Result := .next (s.shift8 .sla .c)

/-- `SLA D` (R168). -/
def exec_sla_d (s : State) : Result := .next (s.shift8 .sla .d)

/-- `SLA E` (R168). -/
def exec_sla_e (s : State) : Result := .next (s.shift8 .sla .e)

/-- `SLA H` (R168). -/
def exec_sla_h (s : State) : Result := .next (s.shift8 .sla .h)

/-- `SLA L` (R168). -/
def exec_sla_l (s : State) : Result := .next (s.shift8 .sla .l)

/-- `SLA (HL)` (R168). -/
def exec_sla_mhl (s : State) : Result := .next (s.shift8 .sla .mhl)

/-- `SLA A` (R168). -/
def exec_sla_a (s : State) : Result := .next (s.shift8 .sla .a)

/-- `SRA B` (R169). -/
def exec_sra_b (s : State) : Result := .next (s.shift8 .sra .b)

/-- `SRA C` (R169). -/
def exec_sra_c (s : State) : Result := .next (s.shift8 .sra .c)

/-- `SRA D` (R169). -/
def exec_sra_d (s : State) : Result := .next (s.shift8 .sra .d)

/-- `SRA E` (R169). -/
def exec_sra_e (s : State) : Result := .next (s.shift8 .sra .e)

/-- `SRA H` (R169). -/
def exec_sra_h (s : State) : Result := .next (s.shift8 .sra .h)

/-- `SRA L` (R169). -/
def exec_sra_l (s : State) : Result := .next (s.shift8 .sra .l)

/-- `SRA (HL)` (R169). -/
def exec_sra_mhl (s : State) : Result := .next (s.shift8 .sra .mhl)

/-- `SRA A` (R169). -/
def exec_sra_a (s : State) : Result := .next (s.shift8 .sra .a)

/-- `SRL B` (R170). -/
def exec_srl_b (s : State) : Result := .next (s.shift8 .srl .b)

/-- `SRL C` (R170). -/
def exec_srl_c (s : State) : Result := .next (s.shift8 .srl .c)

/-- `SRL D` (R170). -/
def exec_srl_d (s : State) : Result := .next (s.shift8 .srl .d)

/-- `SRL E` (R170). -/
def exec_srl_e (s : State) : Result := .next (s.shift8 .srl .e)

/-- `SRL H` (R170). -/
def exec_srl_h (s : State) : Result := .next (s.shift8 .srl .h)

/-- `SRL L` (R170). -/
def exec_srl_l (s : State) : Result := .next (s.shift8 .srl .l)

/-- `SRL (HL)` (R170). -/
def exec_srl_mhl (s : State) : Result := .next (s.shift8 .srl .mhl)

/-- `SRL A` (R170). -/
def exec_srl_a (s : State) : Result := .next (s.shift8 .srl .a)

end Sys2Proof.Machine
end

