-- ==== Sys2Proof/Machine/Misc.lean ====
section
/-! DEFINITION. Miscellaneous instructions (44_misc.md). SWAP is behind the CB prefix and uses the shared
operation of the rotates (Machine/Rotates.lean), whose result R140 gives. One meaning per row of
the opcode table, over the shared operations that stand first. Each ends with `pc <- pcn` unless its
rule says otherwise, and none can fault (R220). -/

namespace Sys2Proof.Machine

/-- DAA (R141). -/
def State.decimalAdjust (s : State) : State :=
  let r := daaResult s.a s.flags
  ((s.setA r.1).setFlags r.2).advance 1

/-- CPL (R142): Z and C unchanged. -/
def State.complementA (s : State) : State :=
  ((s.setA (s.a ^^^ 0xFF)).setFlags { s.flags with n := true, h := true }).advance 1

/-- CCF (R143): Z unchanged. -/
def State.complementCarry (s : State) : State :=
  (s.setFlags { s.flags with n := false, h := false, c := !s.fC }).advance 1

/-- SCF (R144): Z unchanged. -/
def State.setCarry (s : State) : State :=
  (s.setFlags { s.flags with n := false, h := false, c := true }).advance 1

/-- `mode <- m` (R146, R147). -/
def State.enter (s : State) (m : Mode) : State := { s with mode := m }

/-- DI (R148, R150): with `DI_DELAY` = 1 the disable is scheduled, with 0 IME is cleared at once. -/
def State.disableInterrupts (s : State) : State :=
  match s.params.diDelay with
  | .one => (s.advance 1).schedule .disable
  | .zero => { (s.advance 1).schedule .none with ime := false }

/-! ## The meanings -/

/-- `NOP` (R145). -/
def exec_nop (s : State) : Result := .next (s.advance 1)

/-- `STOP` (R147). -/
def exec_stop (s : State) : Result := .next ((s.advance 2).enter .stopped)

/-- `DAA` (R141). -/
def exec_daa (s : State) : Result := .next s.decimalAdjust

/-- `CPL` (R142). -/
def exec_cpl (s : State) : Result := .next s.complementA

/-- `SCF` (R144). -/
def exec_scf (s : State) : Result := .next s.setCarry

/-- `CCF` (R143). -/
def exec_ccf (s : State) : Result := .next s.complementCarry

/-- `HALT` (R146). -/
def exec_halt (s : State) : Result := .next ((s.advance 1).enter .halted)

/-- `DI` (R148). -/
def exec_di (s : State) : Result := .next s.disableInterrupts

/-- `EI` (R149). -/
def exec_ei (s : State) : Result := .next ((s.advance 1).schedule .enable)

/-- `SWAP B` (R140). -/
def exec_swap_b (s : State) : Result := .next (s.shift8 .swap .b)

/-- `SWAP C` (R140). -/
def exec_swap_c (s : State) : Result := .next (s.shift8 .swap .c)

/-- `SWAP D` (R140). -/
def exec_swap_d (s : State) : Result := .next (s.shift8 .swap .d)

/-- `SWAP E` (R140). -/
def exec_swap_e (s : State) : Result := .next (s.shift8 .swap .e)

/-- `SWAP H` (R140). -/
def exec_swap_h (s : State) : Result := .next (s.shift8 .swap .h)

/-- `SWAP L` (R140). -/
def exec_swap_l (s : State) : Result := .next (s.shift8 .swap .l)

/-- `SWAP (HL)` (R140). -/
def exec_swap_mhl (s : State) : Result := .next (s.shift8 .swap .mhl)

/-- `SWAP A` (R140). -/
def exec_swap_a (s : State) : Result := .next (s.shift8 .swap .a)

end Sys2Proof.Machine
end

