-- ==== Sys2Proof/Machine/Returns.lean ====
section
/-! DEFINITION. Returns (49_returns.md). None writes a flag. One meaning per row of
the opcode table, over the shared operations that stand first. Each ends with `pc <- pcn` unless its
rule says otherwise, and none can fault (R220). -/

namespace Sys2Proof.Machine

/-- `pc <- pop16()` (R210). -/
def State.ret (s : State) : State :=
  let r := s.pop16
  r.2.jump r.1

/-- `if cond(cc) then pc <- pop16() else pc <- pcn` (R211). -/
def State.retIf (s : State) (cc : Cond) : State := if s.cond cc then s.ret else s.advance 1

/-! ## The meanings -/

/-- `RET NZ` (R211). -/
def exec_ret_nz (s : State) : Result := .next (s.retIf .nz)

/-- `RET Z` (R211). -/
def exec_ret_z (s : State) : Result := .next (s.retIf .z)

/-- `RET` (R210). -/
def exec_ret (s : State) : Result := .next s.ret

/-- `RET NC` (R211). -/
def exec_ret_nc (s : State) : Result := .next (s.retIf .nc)

/-- `RET C` (R211). -/
def exec_ret_c (s : State) : Result := .next (s.retIf .c)

/-- `RETI` (R212). -/
def exec_reti (s : State) : Result := .next s.returnFromInterrupt

end Sys2Proof.Machine
end

