-- ==== Sys2Proof/Decode.lean ====
section
/-! DEFINITION. Decoding and encoding (30_encoding.md). The decoder reads the fields of R52 to R61
out of the bytes, the encoder writes the bytes of the two opcode grids R67 and R68; that they agree
is a statement of its own. -/

namespace Sys2Proof

/-! ## Codes of the operand classes -/

/-- The 3-bit code `r8` (R52). -/
def Opnd8.ofCode (n : Nat) : Opnd8 :=
  match n % 8 with
  | 0 => .b
  | 1 => .c
  | 2 => .d
  | 3 => .e
  | 4 => .h
  | 5 => .l
  | 6 => .mhl
  | _ => .a

/-- The code of Opnd8's encoding. -/
def Opnd8.code (x : Opnd8) : Nat :=
  match x with
  | .b => 0
  | .c => 1
  | .d => 2
  | .e => 3
  | .h => 4
  | .l => 5
  | .mhl => 6
  | .a => 7

/-- The 2-bit code `rr` (R53), first row. -/
def Pair.ofCode (n : Nat) : Pair :=
  match n % 4 with
  | 0 => .bc
  | 1 => .de
  | 2 => .hl
  | _ => .sp

/-- The code of Pair's encoding. -/
def Pair.code (x : Pair) : Nat :=
  match x with
  | .bc => 0
  | .de => 1
  | .hl => 2
  | .sp => 3

/-- The 2-bit code `rr` (R53), second row. -/
def StackPair.ofCode (n : Nat) : StackPair :=
  match n % 4 with
  | 0 => .bc
  | 1 => .de
  | 2 => .hl
  | _ => .af

/-- The code of StackPair's encoding. -/
def StackPair.code (x : StackPair) : Nat :=
  match x with
  | .bc => 0
  | .de => 1
  | .hl => 2
  | .af => 3

/-- The 2-bit code `cc` (R54). -/
def Cond.ofCode (n : Nat) : Cond :=
  match n % 4 with
  | 0 => .nz
  | 1 => .z
  | 2 => .nc
  | _ => .c

/-- The code of Cond's encoding. -/
def Cond.code (x : Cond) : Nat :=
  match x with
  | .nz => 0
  | .z => 1
  | .nc => 2
  | .c => 3

/-- The 3-bit code `ooo` (R120). -/
def AluOp.ofCode (n : Nat) : AluOp :=
  match n % 8 with
  | 0 => .add
  | 1 => .adc
  | 2 => .sub
  | 3 => .sbc
  | 4 => .and
  | 5 => .xor
  | 6 => .or
  | _ => .cp

/-- The code of AluOp's encoding. -/
def AluOp.code (x : AluOp) : Nat :=
  match x with
  | .add => 0
  | .adc => 1
  | .sub => 2
  | .sbc => 3
  | .and => 4
  | .xor => 5
  | .or => 6
  | .cp => 7

/-- The 3-bit code `yyy` of the CB page (R59). -/
def ShiftOp.ofCode (n : Nat) : ShiftOp :=
  match n % 8 with
  | 0 => .rlc
  | 1 => .rrc
  | 2 => .rl
  | 3 => .rr
  | 4 => .sla
  | 5 => .sra
  | 6 => .swap
  | _ => .srl

/-- The code of ShiftOp's encoding. -/
def ShiftOp.code (x : ShiftOp) : Nat :=
  match x with
  | .rlc => 0
  | .rrc => 1
  | .rl => 2
  | .rr => 3
  | .sla => 4
  | .sra => 5
  | .swap => 6
  | .srl => 7

/-- Bits 4:3 of the opcodes 07, 0F, 17, 1F. -/
def RotAOp.ofCode (n : Nat) : RotAOp :=
  match n % 4 with
  | 0 => .rlca
  | 1 => .rrca
  | 2 => .rla
  | _ => .rra

/-- The code of RotAOp's encoding. -/
def RotAOp.code (x : RotAOp) : Nat :=
  match x with
  | .rlca => 0
  | .rrca => 1
  | .rla => 2
  | .rra => 3

/-! ## The instruction of each encoding pattern -/

/-- `LD r1,r2` with the two `r8` operands (R71, R72, R73; byte `01 ddd sss`, R52). The pattern's
`LD (HL),(HL)`, byte 76, is HALT (R73, C6). -/
def Instr.ofLd (x : Opnd8) (y : Opnd8) : Instr :=
  match x, y with
  | .b, .b => .ld_b_b
  | .b, .c => .ld_b_c
  | .b, .d => .ld_b_d
  | .b, .e => .ld_b_e
  | .b, .h => .ld_b_h
  | .b, .l => .ld_b_l
  | .b, .mhl => .ld_b_mhl
  | .b, .a => .ld_b_a
  | .c, .b => .ld_c_b
  | .c, .c => .ld_c_c
  | .c, .d => .ld_c_d
  | .c, .e => .ld_c_e
  | .c, .h => .ld_c_h
  | .c, .l => .ld_c_l
  | .c, .mhl => .ld_c_mhl
  | .c, .a => .ld_c_a
  | .d, .b => .ld_d_b
  | .d, .c => .ld_d_c
  | .d, .d => .ld_d_d
  | .d, .e => .ld_d_e
  | .d, .h => .ld_d_h
  | .d, .l => .ld_d_l
  | .d, .mhl => .ld_d_mhl
  | .d, .a => .ld_d_a
  | .e, .b => .ld_e_b
  | .e, .c => .ld_e_c
  | .e, .d => .ld_e_d
  | .e, .e => .ld_e_e
  | .e, .h => .ld_e_h
  | .e, .l => .ld_e_l
  | .e, .mhl => .ld_e_mhl
  | .e, .a => .ld_e_a
  | .h, .b => .ld_h_b
  | .h, .c => .ld_h_c
  | .h, .d => .ld_h_d
  | .h, .e => .ld_h_e
  | .h, .h => .ld_h_h
  | .h, .l => .ld_h_l
  | .h, .mhl => .ld_h_mhl
  | .h, .a => .ld_h_a
  | .l, .b => .ld_l_b
  | .l, .c => .ld_l_c
  | .l, .d => .ld_l_d
  | .l, .e => .ld_l_e
  | .l, .h => .ld_l_h
  | .l, .l => .ld_l_l
  | .l, .mhl => .ld_l_mhl
  | .l, .a => .ld_l_a
  | .mhl, .b => .ld_mhl_b
  | .mhl, .c => .ld_mhl_c
  | .mhl, .d => .ld_mhl_d
  | .mhl, .e => .ld_mhl_e
  | .mhl, .h => .ld_mhl_h
  | .mhl, .l => .ld_mhl_l
  | .mhl, .mhl => .halt
  | .mhl, .a => .ld_mhl_a
  | .a, .b => .ld_a_b
  | .a, .c => .ld_a_c
  | .a, .d => .ld_a_d
  | .a, .e => .ld_a_e
  | .a, .h => .ld_a_h
  | .a, .l => .ld_a_l
  | .a, .mhl => .ld_a_mhl
  | .a, .a => .ld_a_a

/-- `LD r,n`, `LD (HL),n` and `LD A,#` (R70, R74, R78; byte `00 rrr 110`). -/
def Instr.ofLdImm (x : Opnd8) (n : Byte) : Instr :=
  match x with
  | .b => .ld_b_n n
  | .c => .ld_c_n n
  | .d => .ld_d_n n
  | .e => .ld_e_n n
  | .h => .ld_h_n n
  | .l => .ld_l_n n
  | .mhl => .ld_mhl_n n
  | .a => .ld_a_n n

/-- `ADD A,r` to `CP r` on a register or (HL) (R120; byte `10 ooo zzz`). -/
def Instr.ofAlu (x : AluOp) (y : Opnd8) : Instr :=
  match x, y with
  | .add, .b => .add_a_b
  | .add, .c => .add_a_c
  | .add, .d => .add_a_d
  | .add, .e => .add_a_e
  | .add, .h => .add_a_h
  | .add, .l => .add_a_l
  | .add, .mhl => .add_a_mhl
  | .add, .a => .add_a_a
  | .adc, .b => .adc_a_b
  | .adc, .c => .adc_a_c
  | .adc, .d => .adc_a_d
  | .adc, .e => .adc_a_e
  | .adc, .h => .adc_a_h
  | .adc, .l => .adc_a_l
  | .adc, .mhl => .adc_a_mhl
  | .adc, .a => .adc_a_a
  | .sub, .b => .sub_b
  | .sub, .c => .sub_c
  | .sub, .d => .sub_d
  | .sub, .e => .sub_e
  | .sub, .h => .sub_h
  | .sub, .l => .sub_l
  | .sub, .mhl => .sub_mhl
  | .sub, .a => .sub_a
  | .sbc, .b => .sbc_a_b
  | .sbc, .c => .sbc_a_c
  | .sbc, .d => .sbc_a_d
  | .sbc, .e => .sbc_a_e
  | .sbc, .h => .sbc_a_h
  | .sbc, .l => .sbc_a_l
  | .sbc, .mhl => .sbc_a_mhl
  | .sbc, .a => .sbc_a_a
  | .and, .b => .and_b
  | .and, .c => .and_c
  | .and, .d => .and_d
  | .and, .e => .and_e
  | .and, .h => .and_h
  | .and, .l => .and_l
  | .and, .mhl => .and_mhl
  | .and, .a => .and_a
  | .xor, .b => .xor_b
  | .xor, .c => .xor_c
  | .xor, .d => .xor_d
  | .xor, .e => .xor_e
  | .xor, .h => .xor_h
  | .xor, .l => .xor_l
  | .xor, .mhl => .xor_mhl
  | .xor, .a => .xor_a
  | .or, .b => .or_b
  | .or, .c => .or_c
  | .or, .d => .or_d
  | .or, .e => .or_e
  | .or, .h => .or_h
  | .or, .l => .or_l
  | .or, .mhl => .or_mhl
  | .or, .a => .or_a
  | .cp, .b => .cp_b
  | .cp, .c => .cp_c
  | .cp, .d => .cp_d
  | .cp, .e => .cp_e
  | .cp, .h => .cp_h
  | .cp, .l => .cp_l
  | .cp, .mhl => .cp_mhl
  | .cp, .a => .cp_a

/-- `ADD A,#` to `CP #` (R120; byte `11 ooo 110`). -/
def Instr.ofAluImm (x : AluOp) (n : Byte) : Instr :=
  match x with
  | .add => .add_a_n n
  | .adc => .adc_a_n n
  | .sub => .sub_n n
  | .sbc => .sbc_a_n n
  | .and => .and_n n
  | .xor => .xor_n n
  | .or => .or_n n
  | .cp => .cp_n n

/-- 8-bit `INC r` (R118; byte `00 rrr 100`). -/
def Instr.ofInc (x : Opnd8) : Instr :=
  match x with
  | .b => .inc_b
  | .c => .inc_c
  | .d => .inc_d
  | .e => .inc_e
  | .h => .inc_h
  | .l => .inc_l
  | .mhl => .inc_mhl
  | .a => .inc_a

/-- 8-bit `DEC r` (R119; byte `00 rrr 101`). -/
def Instr.ofDec (x : Opnd8) : Instr :=
  match x with
  | .b => .dec_b
  | .c => .dec_c
  | .d => .dec_d
  | .e => .dec_e
  | .h => .dec_h
  | .l => .dec_l
  | .mhl => .dec_mhl
  | .a => .dec_a

/-- `LD rr,nn` (R100; byte `00 pp0 001`). -/
def Instr.ofLdPair (x : Pair) (nn : Word) : Instr :=
  match x with
  | .bc => .ld_bc_nn nn
  | .de => .ld_de_nn nn
  | .hl => .ld_hl_nn nn
  | .sp => .ld_sp_nn nn

/-- `ADD HL,rr` (R130; byte `00 pp1 001`). -/
def Instr.ofAddHl (x : Pair) : Instr :=
  match x with
  | .bc => .add_hl_bc
  | .de => .add_hl_de
  | .hl => .add_hl_hl
  | .sp => .add_hl_sp

/-- 16-bit `INC rr` (R132; byte `00 pp0 011`). -/
def Instr.ofIncPair (x : Pair) : Instr :=
  match x with
  | .bc => .inc_bc
  | .de => .inc_de
  | .hl => .inc_hl
  | .sp => .inc_sp

/-- 16-bit `DEC rr` (R133; byte `00 pp1 011`). -/
def Instr.ofDecPair (x : Pair) : Instr :=
  match x with
  | .bc => .dec_bc
  | .de => .dec_de
  | .hl => .dec_hl
  | .sp => .dec_sp

/-- `PUSH rr` (R105; byte `11 pp0 101`). -/
def Instr.ofPush (x : StackPair) : Instr :=
  match x with
  | .bc => .push_bc
  | .de => .push_de
  | .hl => .push_hl
  | .af => .push_af

/-- `POP rr` (R106; byte `11 pp0 001`). -/
def Instr.ofPop (x : StackPair) : Instr :=
  match x with
  | .bc => .pop_bc
  | .de => .pop_de
  | .hl => .pop_hl
  | .af => .pop_af

/-- RLCA, RRCA, RLA, RRA (R160 to R163; bytes 07, 0F, 17, 1F). -/
def Instr.ofRotA (x : RotAOp) : Instr :=
  match x with
  | .rlca => .rlca
  | .rrca => .rrca
  | .rla => .rla
  | .rra => .rra

/-- `JR cc,n` (R195; byte `001 cc 000`). -/
def Instr.ofJr (x : Cond) (e8 : Byte) : Instr :=
  match x with
  | .nz => .jr_nz_e8 e8
  | .z => .jr_z_e8 e8
  | .nc => .jr_nc_e8 e8
  | .c => .jr_c_e8 e8

/-- `JP cc,nn` (R193; byte `110 cc 010`). -/
def Instr.ofJp (x : Cond) (nn : Word) : Instr :=
  match x with
  | .nz => .jp_nz_nn nn
  | .z => .jp_z_nn nn
  | .nc => .jp_nc_nn nn
  | .c => .jp_c_nn nn

/-- `CALL cc,nn` (R201; byte `110 cc 100`). -/
def Instr.ofCall (x : Cond) (nn : Word) : Instr :=
  match x with
  | .nz => .call_nz_nn nn
  | .z => .call_z_nn nn
  | .nc => .call_nc_nn nn
  | .c => .call_c_nn nn

/-- `RET cc` (R211; byte `110 cc 000`). -/
def Instr.ofRet (x : Cond) : Instr :=
  match x with
  | .nz => .ret_nz
  | .z => .ret_z
  | .nc => .ret_nc
  | .c => .ret_c

/-- `RST t` with the target `8 * t` (R202, R61; byte `11 ttt 111`). -/
def Instr.ofRst (x : Fin 8) : Instr :=
  match x with
  | 0 => .rst_00
  | 1 => .rst_08
  | 2 => .rst_10
  | 3 => .rst_18
  | 4 => .rst_20
  | 5 => .rst_28
  | 6 => .rst_30
  | 7 => .rst_38

/-- The CB instructions of quadrant 00 (R59; byte 1 `00 yyy zzz`). -/
def Instr.ofShift (x : ShiftOp) (y : Opnd8) : Instr :=
  match x, y with
  | .rlc, .b => .rlc_b
  | .rlc, .c => .rlc_c
  | .rlc, .d => .rlc_d
  | .rlc, .e => .rlc_e
  | .rlc, .h => .rlc_h
  | .rlc, .l => .rlc_l
  | .rlc, .mhl => .rlc_mhl
  | .rlc, .a => .rlc_a
  | .rrc, .b => .rrc_b
  | .rrc, .c => .rrc_c
  | .rrc, .d => .rrc_d
  | .rrc, .e => .rrc_e
  | .rrc, .h => .rrc_h
  | .rrc, .l => .rrc_l
  | .rrc, .mhl => .rrc_mhl
  | .rrc, .a => .rrc_a
  | .rl, .b => .rl_b
  | .rl, .c => .rl_c
  | .rl, .d => .rl_d
  | .rl, .e => .rl_e
  | .rl, .h => .rl_h
  | .rl, .l => .rl_l
  | .rl, .mhl => .rl_mhl
  | .rl, .a => .rl_a
  | .rr, .b => .rr_b
  | .rr, .c => .rr_c
  | .rr, .d => .rr_d
  | .rr, .e => .rr_e
  | .rr, .h => .rr_h
  | .rr, .l => .rr_l
  | .rr, .mhl => .rr_mhl
  | .rr, .a => .rr_a
  | .sla, .b => .sla_b
  | .sla, .c => .sla_c
  | .sla, .d => .sla_d
  | .sla, .e => .sla_e
  | .sla, .h => .sla_h
  | .sla, .l => .sla_l
  | .sla, .mhl => .sla_mhl
  | .sla, .a => .sla_a
  | .sra, .b => .sra_b
  | .sra, .c => .sra_c
  | .sra, .d => .sra_d
  | .sra, .e => .sra_e
  | .sra, .h => .sra_h
  | .sra, .l => .sra_l
  | .sra, .mhl => .sra_mhl
  | .sra, .a => .sra_a
  | .swap, .b => .swap_b
  | .swap, .c => .swap_c
  | .swap, .d => .swap_d
  | .swap, .e => .swap_e
  | .swap, .h => .swap_h
  | .swap, .l => .swap_l
  | .swap, .mhl => .swap_mhl
  | .swap, .a => .swap_a
  | .srl, .b => .srl_b
  | .srl, .c => .srl_c
  | .srl, .d => .srl_d
  | .srl, .e => .srl_e
  | .srl, .h => .srl_h
  | .srl, .l => .srl_l
  | .srl, .mhl => .srl_mhl
  | .srl, .a => .srl_a

/-- `BIT b,r` (R180, R60; byte 1 `01 bbb zzz`). -/
def Instr.ofBit (x : Fin 8) (y : Opnd8) : Instr :=
  match x, y with
  | 0, .b => .bit_0_b
  | 0, .c => .bit_0_c
  | 0, .d => .bit_0_d
  | 0, .e => .bit_0_e
  | 0, .h => .bit_0_h
  | 0, .l => .bit_0_l
  | 0, .mhl => .bit_0_mhl
  | 0, .a => .bit_0_a
  | 1, .b => .bit_1_b
  | 1, .c => .bit_1_c
  | 1, .d => .bit_1_d
  | 1, .e => .bit_1_e
  | 1, .h => .bit_1_h
  | 1, .l => .bit_1_l
  | 1, .mhl => .bit_1_mhl
  | 1, .a => .bit_1_a
  | 2, .b => .bit_2_b
  | 2, .c => .bit_2_c
  | 2, .d => .bit_2_d
  | 2, .e => .bit_2_e
  | 2, .h => .bit_2_h
  | 2, .l => .bit_2_l
  | 2, .mhl => .bit_2_mhl
  | 2, .a => .bit_2_a
  | 3, .b => .bit_3_b
  | 3, .c => .bit_3_c
  | 3, .d => .bit_3_d
  | 3, .e => .bit_3_e
  | 3, .h => .bit_3_h
  | 3, .l => .bit_3_l
  | 3, .mhl => .bit_3_mhl
  | 3, .a => .bit_3_a
  | 4, .b => .bit_4_b
  | 4, .c => .bit_4_c
  | 4, .d => .bit_4_d
  | 4, .e => .bit_4_e
  | 4, .h => .bit_4_h
  | 4, .l => .bit_4_l
  | 4, .mhl => .bit_4_mhl
  | 4, .a => .bit_4_a
  | 5, .b => .bit_5_b
  | 5, .c => .bit_5_c
  | 5, .d => .bit_5_d
  | 5, .e => .bit_5_e
  | 5, .h => .bit_5_h
  | 5, .l => .bit_5_l
  | 5, .mhl => .bit_5_mhl
  | 5, .a => .bit_5_a
  | 6, .b => .bit_6_b
  | 6, .c => .bit_6_c
  | 6, .d => .bit_6_d
  | 6, .e => .bit_6_e
  | 6, .h => .bit_6_h
  | 6, .l => .bit_6_l
  | 6, .mhl => .bit_6_mhl
  | 6, .a => .bit_6_a
  | 7, .b => .bit_7_b
  | 7, .c => .bit_7_c
  | 7, .d => .bit_7_d
  | 7, .e => .bit_7_e
  | 7, .h => .bit_7_h
  | 7, .l => .bit_7_l
  | 7, .mhl => .bit_7_mhl
  | 7, .a => .bit_7_a

/-- `RES b,r` (R182, R60; byte 1 `10 bbb zzz`). -/
def Instr.ofRes (x : Fin 8) (y : Opnd8) : Instr :=
  match x, y with
  | 0, .b => .res_0_b
  | 0, .c => .res_0_c
  | 0, .d => .res_0_d
  | 0, .e => .res_0_e
  | 0, .h => .res_0_h
  | 0, .l => .res_0_l
  | 0, .mhl => .res_0_mhl
  | 0, .a => .res_0_a
  | 1, .b => .res_1_b
  | 1, .c => .res_1_c
  | 1, .d => .res_1_d
  | 1, .e => .res_1_e
  | 1, .h => .res_1_h
  | 1, .l => .res_1_l
  | 1, .mhl => .res_1_mhl
  | 1, .a => .res_1_a
  | 2, .b => .res_2_b
  | 2, .c => .res_2_c
  | 2, .d => .res_2_d
  | 2, .e => .res_2_e
  | 2, .h => .res_2_h
  | 2, .l => .res_2_l
  | 2, .mhl => .res_2_mhl
  | 2, .a => .res_2_a
  | 3, .b => .res_3_b
  | 3, .c => .res_3_c
  | 3, .d => .res_3_d
  | 3, .e => .res_3_e
  | 3, .h => .res_3_h
  | 3, .l => .res_3_l
  | 3, .mhl => .res_3_mhl
  | 3, .a => .res_3_a
  | 4, .b => .res_4_b
  | 4, .c => .res_4_c
  | 4, .d => .res_4_d
  | 4, .e => .res_4_e
  | 4, .h => .res_4_h
  | 4, .l => .res_4_l
  | 4, .mhl => .res_4_mhl
  | 4, .a => .res_4_a
  | 5, .b => .res_5_b
  | 5, .c => .res_5_c
  | 5, .d => .res_5_d
  | 5, .e => .res_5_e
  | 5, .h => .res_5_h
  | 5, .l => .res_5_l
  | 5, .mhl => .res_5_mhl
  | 5, .a => .res_5_a
  | 6, .b => .res_6_b
  | 6, .c => .res_6_c
  | 6, .d => .res_6_d
  | 6, .e => .res_6_e
  | 6, .h => .res_6_h
  | 6, .l => .res_6_l
  | 6, .mhl => .res_6_mhl
  | 6, .a => .res_6_a
  | 7, .b => .res_7_b
  | 7, .c => .res_7_c
  | 7, .d => .res_7_d
  | 7, .e => .res_7_e
  | 7, .h => .res_7_h
  | 7, .l => .res_7_l
  | 7, .mhl => .res_7_mhl
  | 7, .a => .res_7_a

/-- `SET b,r` (R181, R60; byte 1 `11 bbb zzz`). -/
def Instr.ofSet (x : Fin 8) (y : Opnd8) : Instr :=
  match x, y with
  | 0, .b => .set_0_b
  | 0, .c => .set_0_c
  | 0, .d => .set_0_d
  | 0, .e => .set_0_e
  | 0, .h => .set_0_h
  | 0, .l => .set_0_l
  | 0, .mhl => .set_0_mhl
  | 0, .a => .set_0_a
  | 1, .b => .set_1_b
  | 1, .c => .set_1_c
  | 1, .d => .set_1_d
  | 1, .e => .set_1_e
  | 1, .h => .set_1_h
  | 1, .l => .set_1_l
  | 1, .mhl => .set_1_mhl
  | 1, .a => .set_1_a
  | 2, .b => .set_2_b
  | 2, .c => .set_2_c
  | 2, .d => .set_2_d
  | 2, .e => .set_2_e
  | 2, .h => .set_2_h
  | 2, .l => .set_2_l
  | 2, .mhl => .set_2_mhl
  | 2, .a => .set_2_a
  | 3, .b => .set_3_b
  | 3, .c => .set_3_c
  | 3, .d => .set_3_d
  | 3, .e => .set_3_e
  | 3, .h => .set_3_h
  | 3, .l => .set_3_l
  | 3, .mhl => .set_3_mhl
  | 3, .a => .set_3_a
  | 4, .b => .set_4_b
  | 4, .c => .set_4_c
  | 4, .d => .set_4_d
  | 4, .e => .set_4_e
  | 4, .h => .set_4_h
  | 4, .l => .set_4_l
  | 4, .mhl => .set_4_mhl
  | 4, .a => .set_4_a
  | 5, .b => .set_5_b
  | 5, .c => .set_5_c
  | 5, .d => .set_5_d
  | 5, .e => .set_5_e
  | 5, .h => .set_5_h
  | 5, .l => .set_5_l
  | 5, .mhl => .set_5_mhl
  | 5, .a => .set_5_a
  | 6, .b => .set_6_b
  | 6, .c => .set_6_c
  | 6, .d => .set_6_d
  | 6, .e => .set_6_e
  | 6, .h => .set_6_h
  | 6, .l => .set_6_l
  | 6, .mhl => .set_6_mhl
  | 6, .a => .set_6_a
  | 7, .b => .set_7_b
  | 7, .c => .set_7_c
  | 7, .d => .set_7_d
  | 7, .e => .set_7_e
  | 7, .h => .set_7_h
  | 7, .l => .set_7_l
  | 7, .mhl => .set_7_mhl
  | 7, .a => .set_7_a

/-! ## Decoding -/

/-- `bits 5:3` of a byte as a bit number or restart number (R60, R61). -/
def fin8 (n : Nat) : Fin 8 := ⟨n % 8, Nat.mod_lt n (by decide)⟩

/-- Byte 1 after the prefix `0xCB`, layout `xx yyy zzz` (R59, R60): every byte is an instruction. -/
def decodeCB (b1 : Byte) : Instr :=
  match field b1 6 2 with
  | 0 => .ofShift (.ofCode (field b1 3 3)) (.ofCode (field b1 0 3))
  | 1 => .ofBit (fin8 (field b1 3 3)) (.ofCode (field b1 0 3))
  | 2 => .ofRes (fin8 (field b1 3 3)) (.ofCode (field b1 0 3))
  | _ => .ofSet (fin8 (field b1 3 3)) (.ofCode (field b1 0 3))

/-- Quadrant `00` of byte 0 (rows 0x to 3x of R67); `y` is bits 5:3 and `z` bits 2:0. -/
def decodeQuadrant0 (y z : Nat) (b1 b2 : Byte) : Option Instr :=
  match z with
  | 0 =>
    match y with
    | 0 => some .nop
    | 1 => some (.ld_mnn_sp (joinBytes b2 b1))
    | 2 => if b1 = 0 then some .stop else none  -- R62
    | 3 => some (.jr_e8 b1)
    | _ => some (.ofJr (.ofCode y) b1)
  | 1 => if y % 2 = 0 then some (.ofLdPair (.ofCode (y / 2)) (joinBytes b2 b1)) else some (.ofAddHl (.ofCode (y / 2)))
  | 2 =>
    match y with
    | 0 => some .ld_mbc_a
    | 1 => some .ld_a_mbc
    | 2 => some .ld_mde_a
    | 3 => some .ld_a_mde
    | 4 => some .ldi_mhl_a
    | 5 => some .ldi_a_mhl
    | 6 => some .ldd_mhl_a
    | _ => some .ldd_a_mhl
  | 3 => if y % 2 = 0 then some (.ofIncPair (.ofCode (y / 2))) else some (.ofDecPair (.ofCode (y / 2)))
  | 4 => some (.ofInc (.ofCode y))
  | 5 => some (.ofDec (.ofCode y))
  | 6 => some (.ofLdImm (.ofCode y) b1)
  | _ =>
    match y with
    | 4 => some .daa
    | 5 => some .cpl
    | 6 => some .scf
    | 7 => some .ccf
    | _ => some (.ofRotA (.ofCode y))

/-- Quadrant `11` of byte 0 (rows Cx to Fx of R67). `none` is one of the eleven unlisted bytes (R57). -/
def decodeQuadrant3 (y z : Nat) (b1 b2 : Byte) : Option Instr :=
  match z with
  | 0 =>
    match y with
    | 4 => some (.ldh_mn_a b1)
    | 5 => some (.add_sp_e8 b1)
    | 6 => some (.ldh_a_mn b1)
    | 7 => some (.ldhl_sp_e8 b1)
    | _ => some (.ofRet (.ofCode y))
  | 1 =>
    match y with
    | 1 => some .ret
    | 3 => some .reti
    | 5 => some .jp_hl
    | 7 => some .ld_sp_hl
    | _ => some (.ofPop (.ofCode (y / 2)))
  | 2 =>
    match y with
    | 4 => some .ld_mc_a
    | 5 => some (.ld_mnn_a (joinBytes b2 b1))
    | 6 => some .ld_a_mc
    | 7 => some (.ld_a_mnn (joinBytes b2 b1))
    | _ => some (.ofJp (.ofCode y) (joinBytes b2 b1))
  | 3 =>
    match y with
    | 0 => some (.jp_nn (joinBytes b2 b1))
    | 1 => some (decodeCB b1)  -- the prefix 0xCB (R50)
    | 6 => some .di
    | 7 => some .ei
    | _ => none  -- D3 DB E3 EB
  | 4 => if y < 4 then some (.ofCall (.ofCode y) (joinBytes b2 b1)) else none  -- E4 EC F4 FC
  | 5 =>
    match y with
    | 1 => some (.call_nn (joinBytes b2 b1))
    | 3 => none  -- DD
    | 5 => none  -- ED
    | 7 => none  -- FD
    | _ => some (.ofPush (.ofCode (y / 2)))
  | 6 => some (.ofAluImm (.ofCode y) b1)
  | _ => some (.ofRst (fin8 y))

/-- The instruction of the bytes `b0 b1 b2` (R63), of which it reads as many as the length says;
`none` where the decoder raises `IllegalOpcode(b0)` (R57, R62). -/
def decodeBytes (b0 b1 b2 : Byte) : Option Instr :=
  match field b0 6 2 with
  | 0 => decodeQuadrant0 (field b0 3 3) (field b0 0 3) b1 b2
  | 1 => some (.ofLd (.ofCode (field b0 3 3)) (.ofCode (field b0 0 3)))
  | 2 => some (.ofAlu (.ofCode (field b0 3 3)) (.ofCode (field b0 0 3)))
  | _ => decodeQuadrant3 (field b0 3 3) (field b0 0 3) b1 b2

/-- How many bytes the instruction that starts with `b0` has, from byte 0 alone (R50, R51, R63).
The eleven unlisted bytes are refused after one byte. -/
def lengthOf (b0 : Byte) : Nat :=
  let y := field b0 3 3
  match field b0 6 2, field b0 0 3 with
  | 0, 0 => if y = 0 then 1 else if y = 1 then 3 else 2
  | 0, 1 => if y % 2 = 0 then 3 else 1
  | 0, 6 => 2
  | 3, 0 => if y < 4 then 1 else 2
  | 3, 2 => if y = 4 ∨ y = 6 then 1 else 3
  | 3, 3 => if y = 0 then 3 else if y = 1 then 2 else 1
  | 3, 4 => if y < 4 then 3 else 1
  | 3, 5 => if y = 1 then 3 else 1
  | 3, 6 => 2
  | _, _ => 1

/-- Why a list of bytes is not decoded. -/
inductive DecodeError where
  /-- The list ends before the instruction does. -/
  | truncated
  /-- `IllegalOpcode(byte)` (R57, R62). -/
  | illegalOpcode (byte : Byte)
deriving DecidableEq, Repr

/-- What decoding a list of bytes gives. -/
inductive Decoded where
  /-- An instruction, and the bytes after it. -/
  | instr (i : Instr) (rest : List Byte)
  /-- A rejection by name. -/
  | rejected (e : DecodeError)
deriving DecidableEq, Repr

/-- Decode the first instruction of a list of bytes: total (R63). -/
def decode (bytes : List Byte) : Decoded :=
  match bytes with
  | [] => .rejected .truncated
  | b0 :: more =>
    if bytes.length < lengthOf b0 then .rejected .truncated
    else
      match decodeBytes b0 (more.getD 0 0) (more.getD 1 0) with
      | some i => .instr i (bytes.drop (lengthOf b0))
      | none => .rejected (.illegalOpcode b0)

/-! ## Encoding -/

/-- The bytes of an instruction at ascending addresses: the opcode of the grids R67 and R68, then
the immediate, low byte first (R50, R51, R56). -/
def encode (i : Instr) : List Byte :=
  match i with
  | .nop => [0x00#8]
  | .ld_bc_nn nn => [0x01#8, loByte nn, hiByte nn]
  | .ld_mbc_a => [0x02#8]
  | .inc_bc => [0x03#8]
  | .inc_b => [0x04#8]
  | .dec_b => [0x05#8]
  | .ld_b_n n => [0x06#8, n]
  | .rlca => [0x07#8]
  | .ld_mnn_sp nn => [0x08#8, loByte nn, hiByte nn]
  | .add_hl_bc => [0x09#8]
  | .ld_a_mbc => [0x0A#8]
  | .dec_bc => [0x0B#8]
  | .inc_c => [0x0C#8]
  | .dec_c => [0x0D#8]
  | .ld_c_n n => [0x0E#8, n]
  | .rrca => [0x0F#8]
  | .stop => [0x10#8, 0x00#8]
  | .ld_de_nn nn => [0x11#8, loByte nn, hiByte nn]
  | .ld_mde_a => [0x12#8]
  | .inc_de => [0x13#8]
  | .inc_d => [0x14#8]
  | .dec_d => [0x15#8]
  | .ld_d_n n => [0x16#8, n]
  | .rla => [0x17#8]
  | .jr_e8 e8 => [0x18#8, e8]
  | .add_hl_de => [0x19#8]
  | .ld_a_mde => [0x1A#8]
  | .dec_de => [0x1B#8]
  | .inc_e => [0x1C#8]
  | .dec_e => [0x1D#8]
  | .ld_e_n n => [0x1E#8, n]
  | .rra => [0x1F#8]
  | .jr_nz_e8 e8 => [0x20#8, e8]
  | .ld_hl_nn nn => [0x21#8, loByte nn, hiByte nn]
  | .ldi_mhl_a => [0x22#8]
  | .inc_hl => [0x23#8]
  | .inc_h => [0x24#8]
  | .dec_h => [0x25#8]
  | .ld_h_n n => [0x26#8, n]
  | .daa => [0x27#8]
  | .jr_z_e8 e8 => [0x28#8, e8]
  | .add_hl_hl => [0x29#8]
  | .ldi_a_mhl => [0x2A#8]
  | .dec_hl => [0x2B#8]
  | .inc_l => [0x2C#8]
  | .dec_l => [0x2D#8]
  | .ld_l_n n => [0x2E#8, n]
  | .cpl => [0x2F#8]
  | .jr_nc_e8 e8 => [0x30#8, e8]
  | .ld_sp_nn nn => [0x31#8, loByte nn, hiByte nn]
  | .ldd_mhl_a => [0x32#8]
  | .inc_sp => [0x33#8]
  | .inc_mhl => [0x34#8]
  | .dec_mhl => [0x35#8]
  | .ld_mhl_n n => [0x36#8, n]
  | .scf => [0x37#8]
  | .jr_c_e8 e8 => [0x38#8, e8]
  | .add_hl_sp => [0x39#8]
  | .ldd_a_mhl => [0x3A#8]
  | .dec_sp => [0x3B#8]
  | .inc_a => [0x3C#8]
  | .dec_a => [0x3D#8]
  | .ld_a_n n => [0x3E#8, n]
  | .ccf => [0x3F#8]
  | .ld_b_b => [0x40#8]
  | .ld_b_c => [0x41#8]
  | .ld_b_d => [0x42#8]
  | .ld_b_e => [0x43#8]
  | .ld_b_h => [0x44#8]
  | .ld_b_l => [0x45#8]
  | .ld_b_mhl => [0x46#8]
  | .ld_b_a => [0x47#8]
  | .ld_c_b => [0x48#8]
  | .ld_c_c => [0x49#8]
  | .ld_c_d => [0x4A#8]
  | .ld_c_e => [0x4B#8]
  | .ld_c_h => [0x4C#8]
  | .ld_c_l => [0x4D#8]
  | .ld_c_mhl => [0x4E#8]
  | .ld_c_a => [0x4F#8]
  | .ld_d_b => [0x50#8]
  | .ld_d_c => [0x51#8]
  | .ld_d_d => [0x52#8]
  | .ld_d_e => [0x53#8]
  | .ld_d_h => [0x54#8]
  | .ld_d_l => [0x55#8]
  | .ld_d_mhl => [0x56#8]
  | .ld_d_a => [0x57#8]
  | .ld_e_b => [0x58#8]
  | .ld_e_c => [0x59#8]
  | .ld_e_d => [0x5A#8]
  | .ld_e_e => [0x5B#8]
  | .ld_e_h => [0x5C#8]
  | .ld_e_l => [0x5D#8]
  | .ld_e_mhl => [0x5E#8]
  | .ld_e_a => [0x5F#8]
  | .ld_h_b => [0x60#8]
  | .ld_h_c => [0x61#8]
  | .ld_h_d => [0x62#8]
  | .ld_h_e => [0x63#8]
  | .ld_h_h => [0x64#8]
  | .ld_h_l => [0x65#8]
  | .ld_h_mhl => [0x66#8]
  | .ld_h_a => [0x67#8]
  | .ld_l_b => [0x68#8]
  | .ld_l_c => [0x69#8]
  | .ld_l_d => [0x6A#8]
  | .ld_l_e => [0x6B#8]
  | .ld_l_h => [0x6C#8]
  | .ld_l_l => [0x6D#8]
  | .ld_l_mhl => [0x6E#8]
  | .ld_l_a => [0x6F#8]
  | .ld_mhl_b => [0x70#8]
  | .ld_mhl_c => [0x71#8]
  | .ld_mhl_d => [0x72#8]
  | .ld_mhl_e => [0x73#8]
  | .ld_mhl_h => [0x74#8]
  | .ld_mhl_l => [0x75#8]
  | .halt => [0x76#8]
  | .ld_mhl_a => [0x77#8]
  | .ld_a_b => [0x78#8]
  | .ld_a_c => [0x79#8]
  | .ld_a_d => [0x7A#8]
  | .ld_a_e => [0x7B#8]
  | .ld_a_h => [0x7C#8]
  | .ld_a_l => [0x7D#8]
  | .ld_a_mhl => [0x7E#8]
  | .ld_a_a => [0x7F#8]
  | .add_a_b => [0x80#8]
  | .add_a_c => [0x81#8]
  | .add_a_d => [0x82#8]
  | .add_a_e => [0x83#8]
  | .add_a_h => [0x84#8]
  | .add_a_l => [0x85#8]
  | .add_a_mhl => [0x86#8]
  | .add_a_a => [0x87#8]
  | .adc_a_b => [0x88#8]
  | .adc_a_c => [0x89#8]
  | .adc_a_d => [0x8A#8]
  | .adc_a_e => [0x8B#8]
  | .adc_a_h => [0x8C#8]
  | .adc_a_l => [0x8D#8]
  | .adc_a_mhl => [0x8E#8]
  | .adc_a_a => [0x8F#8]
  | .sub_b => [0x90#8]
  | .sub_c => [0x91#8]
  | .sub_d => [0x92#8]
  | .sub_e => [0x93#8]
  | .sub_h => [0x94#8]
  | .sub_l => [0x95#8]
  | .sub_mhl => [0x96#8]
  | .sub_a => [0x97#8]
  | .sbc_a_b => [0x98#8]
  | .sbc_a_c => [0x99#8]
  | .sbc_a_d => [0x9A#8]
  | .sbc_a_e => [0x9B#8]
  | .sbc_a_h => [0x9C#8]
  | .sbc_a_l => [0x9D#8]
  | .sbc_a_mhl => [0x9E#8]
  | .sbc_a_a => [0x9F#8]
  | .and_b => [0xA0#8]
  | .and_c => [0xA1#8]
  | .and_d => [0xA2#8]
  | .and_e => [0xA3#8]
  | .and_h => [0xA4#8]
  | .and_l => [0xA5#8]
  | .and_mhl => [0xA6#8]
  | .and_a => [0xA7#8]
  | .xor_b => [0xA8#8]
  | .xor_c => [0xA9#8]
  | .xor_d => [0xAA#8]
  | .xor_e => [0xAB#8]
  | .xor_h => [0xAC#8]
  | .xor_l => [0xAD#8]
  | .xor_mhl => [0xAE#8]
  | .xor_a => [0xAF#8]
  | .or_b => [0xB0#8]
  | .or_c => [0xB1#8]
  | .or_d => [0xB2#8]
  | .or_e => [0xB3#8]
  | .or_h => [0xB4#8]
  | .or_l => [0xB5#8]
  | .or_mhl => [0xB6#8]
  | .or_a => [0xB7#8]
  | .cp_b => [0xB8#8]
  | .cp_c => [0xB9#8]
  | .cp_d => [0xBA#8]
  | .cp_e => [0xBB#8]
  | .cp_h => [0xBC#8]
  | .cp_l => [0xBD#8]
  | .cp_mhl => [0xBE#8]
  | .cp_a => [0xBF#8]
  | .ret_nz => [0xC0#8]
  | .pop_bc => [0xC1#8]
  | .jp_nz_nn nn => [0xC2#8, loByte nn, hiByte nn]
  | .jp_nn nn => [0xC3#8, loByte nn, hiByte nn]
  | .call_nz_nn nn => [0xC4#8, loByte nn, hiByte nn]
  | .push_bc => [0xC5#8]
  | .add_a_n n => [0xC6#8, n]
  | .rst_00 => [0xC7#8]
  | .ret_z => [0xC8#8]
  | .ret => [0xC9#8]
  | .jp_z_nn nn => [0xCA#8, loByte nn, hiByte nn]
  | .call_z_nn nn => [0xCC#8, loByte nn, hiByte nn]
  | .call_nn nn => [0xCD#8, loByte nn, hiByte nn]
  | .adc_a_n n => [0xCE#8, n]
  | .rst_08 => [0xCF#8]
  | .ret_nc => [0xD0#8]
  | .pop_de => [0xD1#8]
  | .jp_nc_nn nn => [0xD2#8, loByte nn, hiByte nn]
  | .call_nc_nn nn => [0xD4#8, loByte nn, hiByte nn]
  | .push_de => [0xD5#8]
  | .sub_n n => [0xD6#8, n]
  | .rst_10 => [0xD7#8]
  | .ret_c => [0xD8#8]
  | .reti => [0xD9#8]
  | .jp_c_nn nn => [0xDA#8, loByte nn, hiByte nn]
  | .call_c_nn nn => [0xDC#8, loByte nn, hiByte nn]
  | .sbc_a_n n => [0xDE#8, n]
  | .rst_18 => [0xDF#8]
  | .ldh_mn_a n => [0xE0#8, n]
  | .pop_hl => [0xE1#8]
  | .ld_mc_a => [0xE2#8]
  | .push_hl => [0xE5#8]
  | .and_n n => [0xE6#8, n]
  | .rst_20 => [0xE7#8]
  | .add_sp_e8 e8 => [0xE8#8, e8]
  | .jp_hl => [0xE9#8]
  | .ld_mnn_a nn => [0xEA#8, loByte nn, hiByte nn]
  | .xor_n n => [0xEE#8, n]
  | .rst_28 => [0xEF#8]
  | .ldh_a_mn n => [0xF0#8, n]
  | .pop_af => [0xF1#8]
  | .ld_a_mc => [0xF2#8]
  | .di => [0xF3#8]
  | .push_af => [0xF5#8]
  | .or_n n => [0xF6#8, n]
  | .rst_30 => [0xF7#8]
  | .ldhl_sp_e8 e8 => [0xF8#8, e8]
  | .ld_sp_hl => [0xF9#8]
  | .ld_a_mnn nn => [0xFA#8, loByte nn, hiByte nn]
  | .ei => [0xFB#8]
  | .cp_n n => [0xFE#8, n]
  | .rst_38 => [0xFF#8]
  | .rlc_b => [0xCB#8, 0x00#8]
  | .rlc_c => [0xCB#8, 0x01#8]
  | .rlc_d => [0xCB#8, 0x02#8]
  | .rlc_e => [0xCB#8, 0x03#8]
  | .rlc_h => [0xCB#8, 0x04#8]
  | .rlc_l => [0xCB#8, 0x05#8]
  | .rlc_mhl => [0xCB#8, 0x06#8]
  | .rlc_a => [0xCB#8, 0x07#8]
  | .rrc_b => [0xCB#8, 0x08#8]
  | .rrc_c => [0xCB#8, 0x09#8]
  | .rrc_d => [0xCB#8, 0x0A#8]
  | .rrc_e => [0xCB#8, 0x0B#8]
  | .rrc_h => [0xCB#8, 0x0C#8]
  | .rrc_l => [0xCB#8, 0x0D#8]
  | .rrc_mhl => [0xCB#8, 0x0E#8]
  | .rrc_a => [0xCB#8, 0x0F#8]
  | .rl_b => [0xCB#8, 0x10#8]
  | .rl_c => [0xCB#8, 0x11#8]
  | .rl_d => [0xCB#8, 0x12#8]
  | .rl_e => [0xCB#8, 0x13#8]
  | .rl_h => [0xCB#8, 0x14#8]
  | .rl_l => [0xCB#8, 0x15#8]
  | .rl_mhl => [0xCB#8, 0x16#8]
  | .rl_a => [0xCB#8, 0x17#8]
  | .rr_b => [0xCB#8, 0x18#8]
  | .rr_c => [0xCB#8, 0x19#8]
  | .rr_d => [0xCB#8, 0x1A#8]
  | .rr_e => [0xCB#8, 0x1B#8]
  | .rr_h => [0xCB#8, 0x1C#8]
  | .rr_l => [0xCB#8, 0x1D#8]
  | .rr_mhl => [0xCB#8, 0x1E#8]
  | .rr_a => [0xCB#8, 0x1F#8]
  | .sla_b => [0xCB#8, 0x20#8]
  | .sla_c => [0xCB#8, 0x21#8]
  | .sla_d => [0xCB#8, 0x22#8]
  | .sla_e => [0xCB#8, 0x23#8]
  | .sla_h => [0xCB#8, 0x24#8]
  | .sla_l => [0xCB#8, 0x25#8]
  | .sla_mhl => [0xCB#8, 0x26#8]
  | .sla_a => [0xCB#8, 0x27#8]
  | .sra_b => [0xCB#8, 0x28#8]
  | .sra_c => [0xCB#8, 0x29#8]
  | .sra_d => [0xCB#8, 0x2A#8]
  | .sra_e => [0xCB#8, 0x2B#8]
  | .sra_h => [0xCB#8, 0x2C#8]
  | .sra_l => [0xCB#8, 0x2D#8]
  | .sra_mhl => [0xCB#8, 0x2E#8]
  | .sra_a => [0xCB#8, 0x2F#8]
  | .swap_b => [0xCB#8, 0x30#8]
  | .swap_c => [0xCB#8, 0x31#8]
  | .swap_d => [0xCB#8, 0x32#8]
  | .swap_e => [0xCB#8, 0x33#8]
  | .swap_h => [0xCB#8, 0x34#8]
  | .swap_l => [0xCB#8, 0x35#8]
  | .swap_mhl => [0xCB#8, 0x36#8]
  | .swap_a => [0xCB#8, 0x37#8]
  | .srl_b => [0xCB#8, 0x38#8]
  | .srl_c => [0xCB#8, 0x39#8]
  | .srl_d => [0xCB#8, 0x3A#8]
  | .srl_e => [0xCB#8, 0x3B#8]
  | .srl_h => [0xCB#8, 0x3C#8]
  | .srl_l => [0xCB#8, 0x3D#8]
  | .srl_mhl => [0xCB#8, 0x3E#8]
  | .srl_a => [0xCB#8, 0x3F#8]
  | .bit_0_b => [0xCB#8, 0x40#8]
  | .bit_0_c => [0xCB#8, 0x41#8]
  | .bit_0_d => [0xCB#8, 0x42#8]
  | .bit_0_e => [0xCB#8, 0x43#8]
  | .bit_0_h => [0xCB#8, 0x44#8]
  | .bit_0_l => [0xCB#8, 0x45#8]
  | .bit_0_mhl => [0xCB#8, 0x46#8]
  | .bit_0_a => [0xCB#8, 0x47#8]
  | .bit_1_b => [0xCB#8, 0x48#8]
  | .bit_1_c => [0xCB#8, 0x49#8]
  | .bit_1_d => [0xCB#8, 0x4A#8]
  | .bit_1_e => [0xCB#8, 0x4B#8]
  | .bit_1_h => [0xCB#8, 0x4C#8]
  | .bit_1_l => [0xCB#8, 0x4D#8]
  | .bit_1_mhl => [0xCB#8, 0x4E#8]
  | .bit_1_a => [0xCB#8, 0x4F#8]
  | .bit_2_b => [0xCB#8, 0x50#8]
  | .bit_2_c => [0xCB#8, 0x51#8]
  | .bit_2_d => [0xCB#8, 0x52#8]
  | .bit_2_e => [0xCB#8, 0x53#8]
  | .bit_2_h => [0xCB#8, 0x54#8]
  | .bit_2_l => [0xCB#8, 0x55#8]
  | .bit_2_mhl => [0xCB#8, 0x56#8]
  | .bit_2_a => [0xCB#8, 0x57#8]
  | .bit_3_b => [0xCB#8, 0x58#8]
  | .bit_3_c => [0xCB#8, 0x59#8]
  | .bit_3_d => [0xCB#8, 0x5A#8]
  | .bit_3_e => [0xCB#8, 0x5B#8]
  | .bit_3_h => [0xCB#8, 0x5C#8]
  | .bit_3_l => [0xCB#8, 0x5D#8]
  | .bit_3_mhl => [0xCB#8, 0x5E#8]
  | .bit_3_a => [0xCB#8, 0x5F#8]
  | .bit_4_b => [0xCB#8, 0x60#8]
  | .bit_4_c => [0xCB#8, 0x61#8]
  | .bit_4_d => [0xCB#8, 0x62#8]
  | .bit_4_e => [0xCB#8, 0x63#8]
  | .bit_4_h => [0xCB#8, 0x64#8]
  | .bit_4_l => [0xCB#8, 0x65#8]
  | .bit_4_mhl => [0xCB#8, 0x66#8]
  | .bit_4_a => [0xCB#8, 0x67#8]
  | .bit_5_b => [0xCB#8, 0x68#8]
  | .bit_5_c => [0xCB#8, 0x69#8]
  | .bit_5_d => [0xCB#8, 0x6A#8]
  | .bit_5_e => [0xCB#8, 0x6B#8]
  | .bit_5_h => [0xCB#8, 0x6C#8]
  | .bit_5_l => [0xCB#8, 0x6D#8]
  | .bit_5_mhl => [0xCB#8, 0x6E#8]
  | .bit_5_a => [0xCB#8, 0x6F#8]
  | .bit_6_b => [0xCB#8, 0x70#8]
  | .bit_6_c => [0xCB#8, 0x71#8]
  | .bit_6_d => [0xCB#8, 0x72#8]
  | .bit_6_e => [0xCB#8, 0x73#8]
  | .bit_6_h => [0xCB#8, 0x74#8]
  | .bit_6_l => [0xCB#8, 0x75#8]
  | .bit_6_mhl => [0xCB#8, 0x76#8]
  | .bit_6_a => [0xCB#8, 0x77#8]
  | .bit_7_b => [0xCB#8, 0x78#8]
  | .bit_7_c => [0xCB#8, 0x79#8]
  | .bit_7_d => [0xCB#8, 0x7A#8]
  | .bit_7_e => [0xCB#8, 0x7B#8]
  | .bit_7_h => [0xCB#8, 0x7C#8]
  | .bit_7_l => [0xCB#8, 0x7D#8]
  | .bit_7_mhl => [0xCB#8, 0x7E#8]
  | .bit_7_a => [0xCB#8, 0x7F#8]
  | .res_0_b => [0xCB#8, 0x80#8]
  | .res_0_c => [0xCB#8, 0x81#8]
  | .res_0_d => [0xCB#8, 0x82#8]
  | .res_0_e => [0xCB#8, 0x83#8]
  | .res_0_h => [0xCB#8, 0x84#8]
  | .res_0_l => [0xCB#8, 0x85#8]
  | .res_0_mhl => [0xCB#8, 0x86#8]
  | .res_0_a => [0xCB#8, 0x87#8]
  | .res_1_b => [0xCB#8, 0x88#8]
  | .res_1_c => [0xCB#8, 0x89#8]
  | .res_1_d => [0xCB#8, 0x8A#8]
  | .res_1_e => [0xCB#8, 0x8B#8]
  | .res_1_h => [0xCB#8, 0x8C#8]
  | .res_1_l => [0xCB#8, 0x8D#8]
  | .res_1_mhl => [0xCB#8, 0x8E#8]
  | .res_1_a => [0xCB#8, 0x8F#8]
  | .res_2_b => [0xCB#8, 0x90#8]
  | .res_2_c => [0xCB#8, 0x91#8]
  | .res_2_d => [0xCB#8, 0x92#8]
  | .res_2_e => [0xCB#8, 0x93#8]
  | .res_2_h => [0xCB#8, 0x94#8]
  | .res_2_l => [0xCB#8, 0x95#8]
  | .res_2_mhl => [0xCB#8, 0x96#8]
  | .res_2_a => [0xCB#8, 0x97#8]
  | .res_3_b => [0xCB#8, 0x98#8]
  | .res_3_c => [0xCB#8, 0x99#8]
  | .res_3_d => [0xCB#8, 0x9A#8]
  | .res_3_e => [0xCB#8, 0x9B#8]
  | .res_3_h => [0xCB#8, 0x9C#8]
  | .res_3_l => [0xCB#8, 0x9D#8]
  | .res_3_mhl => [0xCB#8, 0x9E#8]
  | .res_3_a => [0xCB#8, 0x9F#8]
  | .res_4_b => [0xCB#8, 0xA0#8]
  | .res_4_c => [0xCB#8, 0xA1#8]
  | .res_4_d => [0xCB#8, 0xA2#8]
  | .res_4_e => [0xCB#8, 0xA3#8]
  | .res_4_h => [0xCB#8, 0xA4#8]
  | .res_4_l => [0xCB#8, 0xA5#8]
  | .res_4_mhl => [0xCB#8, 0xA6#8]
  | .res_4_a => [0xCB#8, 0xA7#8]
  | .res_5_b => [0xCB#8, 0xA8#8]
  | .res_5_c => [0xCB#8, 0xA9#8]
  | .res_5_d => [0xCB#8, 0xAA#8]
  | .res_5_e => [0xCB#8, 0xAB#8]
  | .res_5_h => [0xCB#8, 0xAC#8]
  | .res_5_l => [0xCB#8, 0xAD#8]
  | .res_5_mhl => [0xCB#8, 0xAE#8]
  | .res_5_a => [0xCB#8, 0xAF#8]
  | .res_6_b => [0xCB#8, 0xB0#8]
  | .res_6_c => [0xCB#8, 0xB1#8]
  | .res_6_d => [0xCB#8, 0xB2#8]
  | .res_6_e => [0xCB#8, 0xB3#8]
  | .res_6_h => [0xCB#8, 0xB4#8]
  | .res_6_l => [0xCB#8, 0xB5#8]
  | .res_6_mhl => [0xCB#8, 0xB6#8]
  | .res_6_a => [0xCB#8, 0xB7#8]
  | .res_7_b => [0xCB#8, 0xB8#8]
  | .res_7_c => [0xCB#8, 0xB9#8]
  | .res_7_d => [0xCB#8, 0xBA#8]
  | .res_7_e => [0xCB#8, 0xBB#8]
  | .res_7_h => [0xCB#8, 0xBC#8]
  | .res_7_l => [0xCB#8, 0xBD#8]
  | .res_7_mhl => [0xCB#8, 0xBE#8]
  | .res_7_a => [0xCB#8, 0xBF#8]
  | .set_0_b => [0xCB#8, 0xC0#8]
  | .set_0_c => [0xCB#8, 0xC1#8]
  | .set_0_d => [0xCB#8, 0xC2#8]
  | .set_0_e => [0xCB#8, 0xC3#8]
  | .set_0_h => [0xCB#8, 0xC4#8]
  | .set_0_l => [0xCB#8, 0xC5#8]
  | .set_0_mhl => [0xCB#8, 0xC6#8]
  | .set_0_a => [0xCB#8, 0xC7#8]
  | .set_1_b => [0xCB#8, 0xC8#8]
  | .set_1_c => [0xCB#8, 0xC9#8]
  | .set_1_d => [0xCB#8, 0xCA#8]
  | .set_1_e => [0xCB#8, 0xCB#8]
  | .set_1_h => [0xCB#8, 0xCC#8]
  | .set_1_l => [0xCB#8, 0xCD#8]
  | .set_1_mhl => [0xCB#8, 0xCE#8]
  | .set_1_a => [0xCB#8, 0xCF#8]
  | .set_2_b => [0xCB#8, 0xD0#8]
  | .set_2_c => [0xCB#8, 0xD1#8]
  | .set_2_d => [0xCB#8, 0xD2#8]
  | .set_2_e => [0xCB#8, 0xD3#8]
  | .set_2_h => [0xCB#8, 0xD4#8]
  | .set_2_l => [0xCB#8, 0xD5#8]
  | .set_2_mhl => [0xCB#8, 0xD6#8]
  | .set_2_a => [0xCB#8, 0xD7#8]
  | .set_3_b => [0xCB#8, 0xD8#8]
  | .set_3_c => [0xCB#8, 0xD9#8]
  | .set_3_d => [0xCB#8, 0xDA#8]
  | .set_3_e => [0xCB#8, 0xDB#8]
  | .set_3_h => [0xCB#8, 0xDC#8]
  | .set_3_l => [0xCB#8, 0xDD#8]
  | .set_3_mhl => [0xCB#8, 0xDE#8]
  | .set_3_a => [0xCB#8, 0xDF#8]
  | .set_4_b => [0xCB#8, 0xE0#8]
  | .set_4_c => [0xCB#8, 0xE1#8]
  | .set_4_d => [0xCB#8, 0xE2#8]
  | .set_4_e => [0xCB#8, 0xE3#8]
  | .set_4_h => [0xCB#8, 0xE4#8]
  | .set_4_l => [0xCB#8, 0xE5#8]
  | .set_4_mhl => [0xCB#8, 0xE6#8]
  | .set_4_a => [0xCB#8, 0xE7#8]
  | .set_5_b => [0xCB#8, 0xE8#8]
  | .set_5_c => [0xCB#8, 0xE9#8]
  | .set_5_d => [0xCB#8, 0xEA#8]
  | .set_5_e => [0xCB#8, 0xEB#8]
  | .set_5_h => [0xCB#8, 0xEC#8]
  | .set_5_l => [0xCB#8, 0xED#8]
  | .set_5_mhl => [0xCB#8, 0xEE#8]
  | .set_5_a => [0xCB#8, 0xEF#8]
  | .set_6_b => [0xCB#8, 0xF0#8]
  | .set_6_c => [0xCB#8, 0xF1#8]
  | .set_6_d => [0xCB#8, 0xF2#8]
  | .set_6_e => [0xCB#8, 0xF3#8]
  | .set_6_h => [0xCB#8, 0xF4#8]
  | .set_6_l => [0xCB#8, 0xF5#8]
  | .set_6_mhl => [0xCB#8, 0xF6#8]
  | .set_6_a => [0xCB#8, 0xF7#8]
  | .set_7_b => [0xCB#8, 0xF8#8]
  | .set_7_c => [0xCB#8, 0xF9#8]
  | .set_7_d => [0xCB#8, 0xFA#8]
  | .set_7_e => [0xCB#8, 0xFB#8]
  | .set_7_h => [0xCB#8, 0xFC#8]
  | .set_7_l => [0xCB#8, 0xFD#8]
  | .set_7_mhl => [0xCB#8, 0xFE#8]
  | .set_7_a => [0xCB#8, 0xFF#8]

/-- The length of an instruction in bytes (R50). -/
def Instr.length (i : Instr) : Nat := (encode i).length

/-! ## The opcode table's words -/

/-- The bytes of an instruction whose bits are `w`, padded with zero bytes. A row of two opcode bytes
is written by the table with byte 0 in bits 15:8 (R51: "whose first two digits apply to byte 0"), so a
16-bit `w` with a prefix `CB` or the word `1000` there is read that way; any other `w` has byte 0 in
bits 7:0 and later bytes above it (entry 22). -/
def tableBytes (nbits w : Nat) : Byte × Byte × Byte :=
  if nbits = 16 ∧ (w / 256 = 0xCB ∨ w = 0x1000) then (BitVec.ofNat 8 (w / 256), BitVec.ofNat 8 w, 0)
  else
    let v := w % 2 ^ nbits
    (BitVec.ofNat 8 v, BitVec.ofNat 8 (v / 256), BitVec.ofNat 8 (v / 65536))

/-- The instruction the decoder reads from the word `w` of `nbits` bits (entry 22). -/
def decodeTableWord (nbits w : Nat) : Option Instr :=
  let bs := tableBytes nbits w
  match decode [bs.1, bs.2.1, bs.2.2] with
  | .instr i _ => some i
  | .rejected _ => none

end Sys2Proof
end

