-- ==== Sys2Proof/Machine/Fetch.lean ====
section
/-! DEFINITION. Fetching an instruction's bytes (30_encoding.md R63; 20_memory.md R34, R43). -/

namespace Sys2Proof.Machine

/-- What a fetch gives. -/
inductive Fetched where
  /-- The instruction, and the state after its bytes were read. -/
  | instr (i : Instr) (s : State)
  /-- `IllegalOpcode(byte)` (R57, R62). -/
  | illegal (byte : Byte)
deriving DecidableEq, Repr

/-- The byte at `pc + k` and the state after it was read, if the instruction has more than `k` bytes;
else nothing is read and the byte is not looked at (R63: "read byte 1 (and byte 2) only if the length
is 2 (3)"). -/
def State.fetchByte (s : State) (len : Nat) (k : Nat) : Byte × State :=
  if k < len then s.memRead (s.pc + BitVec.ofNat 16 k) else (0, s)

/-- Fetch and decode the instruction at `pc`: the opcode, then the bytes its length asks for, in
ascending order, through the same `MemRead` as data (R43, R63). -/
def State.fetch (s : State) : Fetched :=
  let r0 := s.memRead s.pc
  let r1 := r0.2.fetchByte (lengthOf r0.1) 1
  let r2 := r1.2.fetchByte (lengthOf r0.1) 2
  match decodeBytes r0.1 r1.1 r2.1 with
  | some i => .instr i r2.2
  | none => .illegal r0.1

end Sys2Proof.Machine
end

