-- ==== Sys2Proof/Machine/Cycle.lean ====
section
/-! DEFINITION. What one step does in each mode: running (60_exceptions.md R225), halted (R228) and
stopped (R229). The platform's doings for the step have been delivered before. -/

namespace Sys2Proof.Machine

/-- Fetch, decode and execute one instruction (R225 item 2) with the completion step (item 3). -/
def State.executeOne (s : State) : Result :=
  match s.fetch with
  | .instr i s1 => exec i s1.applyImePending
  | .illegal byte => .fault (.illegalOpcode byte)

/-- The interrupt to take now, if any: the vector and the state after `IntSource.select`
(R225 item 1: `IME == 1` and pending). -/
def State.intTaken (s : State) : Option (Word × State) := if s.ime then s.intSelect else none

/-- A step while running (R225). -/
def State.stepRunning (s : State) : Result :=
  match s.intTaken with
  | some r => .next (r.2.takeInterrupt r.1)
  | none => s.executeOne

/-- A step while halted (R228): a pending request ends the halted state whatever IME is, and with IME
set the interrupt is taken at once; with no request nothing changes. -/
def State.stepHalted (s : State) : Result :=
  if s.intPending then
    match s.intTaken with
    | some r => .next (r.2.takeInterrupt r.1)
    | none => .next { s with mode := .running }
  else .next s

/-- A step while stopped (R229): the wake event resumes execution at `pc`; without it nothing changes. -/
def State.stepStopped (s : State) : Result :=
  if s.stopWake then .next { s with mode := .running } else .next s

/-- A step after the platform's doings were delivered. -/
def State.stepMode (s : State) : Result :=
  match s.mode with
  | .running => s.stepRunning
  | .halted => s.stepHalted
  | .stopped => s.stepStopped

/-- `s` in a condition to fetch plain bytes at `pc` in its very next step: running, nothing arriving
that could change memory or interrupt it, no interrupt to take, and no window that hides the store. -/
def State.readyToFetch (s : State) : State :=
  let s1 := { s with mode := .running }
  let s2 : State := { s1 with platform := { s1.platform with arrivals := [] } }
  let s3 := if s.platform.arrivals = [] then s1 else s2
  let s4 : State := if s3.intTaken.isSome then { s3 with ime := false } else s3
  if s4.kindAt s4.pc = .ram ∧ s4.kindAt (s4.pc + 1) = .ram ∧ s4.kindAt (s4.pc + 2) = .ram then s4
  else { s4 with params := { s4.params with memMap := [] } }

/-- `s` with the bytes of the table word `w` at `pc`, `pc + 1` and `pc + 2` (entry 22). -/
def State.placeWord (s : State) (nbits w : Nat) : State :=
  let bs := tableBytes nbits w
  ((s.poke s.pc bs.1).poke (s.pc + 1) bs.2.1).poke (s.pc + 2) bs.2.2

end Sys2Proof.Machine
end

