-- ==== Sys2Proof/Machine/Step.lean ====
section
/-! DEFINITION. One step of the machine, and placing an instruction where the next step fetches it. -/

namespace Sys2Proof.Machine

/-- One step: what the platform does before it, then what the mode asks for (R225, R228, R229). -/
def step (s : State) : Host.Outcome State Fault Refusal := s.deliver.stepMode

/-- `s` with the instruction whose table word is `w` stored at `pc`, ready to be fetched and run by the
very next step. It stands for the load of a program from outside the machine (R254; entry 24). -/
def State.withFetchWord (s : State) (nbits w : Nat) : State := (s.placeWord nbits w).readyToFetch

end Sys2Proof.Machine
end

