-- ==== Sys2Proof/Machine/Timing.lean ====
section
/-! DEFINITION. The cycle figures of the source (70_reset_and_hazards.md R262, R263). They are informative: no rule
reads one, no state depends on one, and the machine has no clock (entry 21). -/

namespace Sys2Proof

/-- The grid of R263: row = high nibble of byte 0, column = low nibble; 0 where the grid has no figure. -/
def cycleGrid : List (List Nat) :=
  [[4, 12, 8, 8, 4, 4, 8, 4, 20, 8, 8, 8, 4, 4, 8, 4],
   [4, 12, 8, 8, 4, 4, 8, 4, 8, 8, 8, 8, 4, 4, 8, 4],
   [8, 12, 8, 8, 4, 4, 8, 4, 8, 8, 8, 8, 4, 4, 8, 4],
   [8, 12, 8, 8, 12, 12, 12, 4, 8, 8, 8, 8, 4, 4, 8, 4],
   [4, 4, 4, 4, 4, 4, 8, 4, 4, 4, 4, 4, 4, 4, 8, 4],
   [4, 4, 4, 4, 4, 4, 8, 4, 4, 4, 4, 4, 4, 4, 8, 4],
   [4, 4, 4, 4, 4, 4, 8, 4, 4, 4, 4, 4, 4, 4, 8, 4],
   [8, 8, 8, 8, 8, 8, 4, 8, 4, 4, 4, 4, 4, 4, 8, 4],
   [4, 4, 4, 4, 4, 4, 8, 4, 4, 4, 4, 4, 4, 4, 8, 4],
   [4, 4, 4, 4, 4, 4, 8, 4, 4, 4, 4, 4, 4, 4, 8, 4],
   [4, 4, 4, 4, 4, 4, 8, 4, 4, 4, 4, 4, 4, 4, 8, 4],
   [4, 4, 4, 4, 4, 4, 8, 4, 4, 4, 4, 4, 4, 4, 8, 4],
   [8, 12, 12, 12, 12, 16, 8, 32, 8, 8, 12, 0, 12, 12, 8, 32],
   [8, 12, 12, 0, 12, 16, 8, 32, 8, 8, 12, 0, 12, 0, 8, 32],
   [12, 12, 8, 0, 0, 16, 8, 32, 16, 4, 16, 0, 0, 0, 8, 32],
   [12, 12, 8, 4, 0, 16, 8, 32, 12, 8, 16, 4, 0, 0, 8, 32]]

/-- The figure printed for an instruction: the grid's for byte 0, and behind the prefix `CB` 16 for an operand `(HL)`,
else 8 (R263). -/
def Instr.cycles (i : Instr) : Nat :=
  match encode i with
  | b0 :: rest =>
    if b0 = 0xCB then (if field (rest.headD 0) 0 3 = 6 then 16 else 8)
    else (cycleGrid.getD (field b0 4 4) []).getD (lowNibble b0) 0
  | [] => 0

end Sys2Proof
end

