-- ==== Sys2Proof/Safety.lean ====
section
/-! DEFINITION. The terms the statements use: what a finished run is (70_reset_and_hazards.md R254),
the completion step as the spec writes it (44_misc.md R150), the flag table (10_state.md R16), which
instructions transfer control (10_state.md R15), rotates as bit operations, packed BCD, and the frames:
what an instruction changes and that it changes nothing else. -/

namespace Sys2Proof.Machine

/-! ## The end of a run -/

/-- The CPU does not stay where it is: it runs, or what ends its low-power state is there (R228, R229). -/
def State.awake (s : State) : Bool :=
  match s.mode with
  | .running => true
  | .halted => s.intPending
  | .stopped => s.stopWake

/-- In none of the next `n` steps does the CPU wake. -/
def State.asleepFor (n : Nat) (s : State) : Bool :=
  match n with
  | 0 => true
  | k + 1 => !s.deliver.awake && State.asleepFor k s.deliver

/-- A finished run (R254): halted or stopped, and never woken again. After the last entry of `arrivals`
the platform does nothing, so one step more than there are entries decides it. -/
def State.finished (s : State) : Bool := s.asleepFor (s.platform.arrivals.length + 1)

/-- The same registers, flags, SP, pc, interrupt state, mode and configuration. -/
def SameCpu (s t : State) : Prop := t = { s with mem := t.mem, platform := t.platform }

/-! ## Whole-machine tables -/

/-- The completion step of R150: IME and `ime_pending` after instruction `i`, from their values when it
began. -/
def completion (delay : Config.DiDelay) (ime : Bool) (p : ImePending) (i : Instr) : Bool × ImePending :=
  let ime1 := match p with
    | .enable => true
    | .disable => false
    | .none => ime
  match i with
  | .ei => (ime1, .enable)
  | .di => match delay with
    | .one => (ime1, .disable)
    | .zero => (false, .none)
  | .reti => (true, .none)
  | _ => (ime1, .none)

/-- An entry of the flag table R16. -/
inductive FlagEffect where
  | kept | reset | set | computed
deriving DecidableEq, Repr

/-- A row of the flag table R16. -/
structure FlagRow where
  /-- Column Z. -/
  z : FlagEffect
  /-- Column N. -/
  n : FlagEffect
  /-- Column H. -/
  h : FlagEffect
  /-- Column C. -/
  c : FlagEffect
deriving DecidableEq, Repr

/-- The flag table R16. "An instruction not in this table ... affects no flag." -/
def flagRow (i : Instr) : FlagRow :=
  match i with
  | .inc_b | .inc_c | .inc_d | .inc_e | .inc_h | .inc_l | .inc_mhl | .inc_a =>
    ⟨.computed, .reset, .computed, .kept⟩
  | .dec_b | .dec_c | .dec_d | .dec_e | .dec_h | .dec_l | .dec_mhl | .dec_a =>
    ⟨.computed, .set, .computed, .kept⟩
  | .rlca | .rrca | .rla | .rra | .rlc_b | .rlc_c | .rlc_d | .rlc_e | .rlc_h | .rlc_l | .rlc_mhl
    | .rlc_a | .rrc_b | .rrc_c | .rrc_d | .rrc_e | .rrc_h | .rrc_l | .rrc_mhl | .rrc_a | .rl_b
    | .rl_c | .rl_d | .rl_e | .rl_h | .rl_l | .rl_mhl | .rl_a | .rr_b | .rr_c | .rr_d | .rr_e
    | .rr_h | .rr_l | .rr_mhl | .rr_a | .sla_b | .sla_c | .sla_d | .sla_e | .sla_h | .sla_l
    | .sla_mhl | .sla_a | .sra_b | .sra_c | .sra_d | .sra_e | .sra_h | .sra_l | .sra_mhl | .sra_a
    | .srl_b | .srl_c | .srl_d | .srl_e | .srl_h | .srl_l | .srl_mhl | .srl_a =>
    ⟨.computed, .reset, .reset, .computed⟩
  | .add_hl_bc | .add_hl_de | .add_hl_hl | .add_hl_sp =>
    ⟨.kept, .reset, .computed, .computed⟩
  | .daa =>
    ⟨.computed, .kept, .reset, .computed⟩
  | .cpl =>
    ⟨.kept, .set, .set, .kept⟩
  | .scf =>
    ⟨.kept, .reset, .reset, .set⟩
  | .ccf =>
    ⟨.kept, .reset, .reset, .computed⟩
  | .add_a_b | .add_a_c | .add_a_d | .add_a_e | .add_a_h | .add_a_l | .add_a_mhl | .add_a_a
    | .adc_a_b | .adc_a_c | .adc_a_d | .adc_a_e | .adc_a_h | .adc_a_l | .adc_a_mhl | .adc_a_a
    | .add_a_n _ | .adc_a_n _ =>
    ⟨.computed, .reset, .computed, .computed⟩
  | .sub_b | .sub_c | .sub_d | .sub_e | .sub_h | .sub_l | .sub_mhl | .sub_a | .sbc_a_b | .sbc_a_c
    | .sbc_a_d | .sbc_a_e | .sbc_a_h | .sbc_a_l | .sbc_a_mhl | .sbc_a_a | .cp_b | .cp_c | .cp_d
    | .cp_e | .cp_h | .cp_l | .cp_mhl | .cp_a | .sub_n _ | .sbc_a_n _ | .cp_n _ =>
    ⟨.computed, .set, .computed, .computed⟩
  | .and_b | .and_c | .and_d | .and_e | .and_h | .and_l | .and_mhl | .and_a | .and_n _ =>
    ⟨.computed, .reset, .set, .reset⟩
  | .xor_b | .xor_c | .xor_d | .xor_e | .xor_h | .xor_l | .xor_mhl | .xor_a | .or_b | .or_c | .or_d
    | .or_e | .or_h | .or_l | .or_mhl | .or_a | .xor_n _ | .or_n _ | .swap_b | .swap_c | .swap_d
    | .swap_e | .swap_h | .swap_l | .swap_mhl | .swap_a =>
    ⟨.computed, .reset, .reset, .reset⟩
  | .add_sp_e8 _ | .ldhl_sp_e8 _ =>
    ⟨.reset, .reset, .computed, .computed⟩
  | .pop_af =>
    ⟨.computed, .computed, .computed, .computed⟩
  | .bit_0_b | .bit_0_c | .bit_0_d | .bit_0_e | .bit_0_h | .bit_0_l | .bit_0_mhl | .bit_0_a
    | .bit_1_b | .bit_1_c | .bit_1_d | .bit_1_e | .bit_1_h | .bit_1_l | .bit_1_mhl | .bit_1_a
    | .bit_2_b | .bit_2_c | .bit_2_d | .bit_2_e | .bit_2_h | .bit_2_l | .bit_2_mhl | .bit_2_a
    | .bit_3_b | .bit_3_c | .bit_3_d | .bit_3_e | .bit_3_h | .bit_3_l | .bit_3_mhl | .bit_3_a
    | .bit_4_b | .bit_4_c | .bit_4_d | .bit_4_e | .bit_4_h | .bit_4_l | .bit_4_mhl | .bit_4_a
    | .bit_5_b | .bit_5_c | .bit_5_d | .bit_5_e | .bit_5_h | .bit_5_l | .bit_5_mhl | .bit_5_a
    | .bit_6_b | .bit_6_c | .bit_6_d | .bit_6_e | .bit_6_h | .bit_6_l | .bit_6_mhl | .bit_6_a
    | .bit_7_b | .bit_7_c | .bit_7_d | .bit_7_e | .bit_7_h | .bit_7_l | .bit_7_mhl | .bit_7_a =>
    ⟨.computed, .reset, .set, .kept⟩
  | _ => ⟨.kept, .kept, .kept, .kept⟩

/-- A flag went from `old` to `new` as its entry of R16 allows. -/
def FlagEffect.allows (e : FlagEffect) (old new : Bool) : Prop :=
  match e with
  | .kept => new = old
  | .reset => new = false
  | .set => new = true
  | .computed => True

/-- The control transfers: jumps, calls, restarts and returns (R15). -/
def isTransfer (i : Instr) : Bool :=
  match i with
  | .jr_e8 _ | .jr_nz_e8 _ | .jr_z_e8 _ | .jr_nc_e8 _ | .jr_c_e8 _ | .ret_nz | .jp_nz_nn _
    | .jp_nn _ | .call_nz_nn _ | .rst_00 | .ret_z | .ret | .jp_z_nn _ | .call_z_nn _ | .call_nn _
    | .rst_08 | .ret_nc | .jp_nc_nn _ | .call_nc_nn _ | .rst_10 | .ret_c | .reti | .jp_c_nn _
    | .call_c_nn _ | .rst_18 | .rst_20 | .jp_hl | .rst_28 | .rst_30 | .rst_38 => true
  | _ => false

/-- The result and outgoing bit of the CB rotates, shifts and SWAP as operations on the bits of the byte
(R164 to R170, R140). -/
def rotateBits (op : ShiftOp) (v : Byte) (c : Bool) : Byte × Bool :=
  match op with
  | .rlc => (v.rotateLeft 1, v.getLsbD 7)
  | .rrc => (v.rotateRight 1, v.getLsbD 0)
  | .rl => ((v <<< 1) ||| (if c then 0x01 else 0x00), v.getLsbD 7)
  | .rr => ((v >>> 1) ||| (if c then 0x80 else 0x00), v.getLsbD 0)
  | .sla => (v <<< 1, v.getLsbD 7)
  | .sra => (v.sshiftRight 1, v.getLsbD 0)
  | .swap => (v.rotateLeft 4, false)
  | .srl => (v >>> 1, v.getLsbD 0)

/-- Packed BCD of a number below 100: tens in the high nibble, units in the low. -/
def bcd (n : Nat) : Byte := BitVec.ofNat 8 (n / 10 * 16 + n % 10)

/-! ## The operands of the 8-bit ALU -/

/-- The operand `n` of the 8-bit ALU: "A,B,C,D,E,H,L,(HL),#" (R120). -/
inductive AluOperand where
  | opnd (o : Opnd8)
  | imm (n : Byte)
deriving DecidableEq, Repr

/-- The instruction with the operation and operand. -/
def AluOperand.instr (x : AluOperand) (op : AluOp) : Instr :=
  match x with
  | .opnd o => .ofAlu op o
  | .imm n => .ofAluImm op n

/-- Its bytes: `10 ooo zzz`, or `11 ooo 110` and the immediate (R120). -/
def AluOperand.bytes (x : AluOperand) (op : AluOp) : List Byte :=
  match x with
  | .opnd o => [BitVec.ofNat 8 (0x80 + 8 * op.code + o.code)]
  | .imm n => [BitVec.ofNat 8 (0xC6 + 8 * op.code), n]

/-- Its value `v` (R120). -/
def AluOperand.value (x : AluOperand) (s : State) : Byte :=
  match x with
  | .opnd o => (s.rd8 o).1
  | .imm n => n

/-- The state after it is read. -/
def AluOperand.after (x : AluOperand) (s : State) : State :=
  match x with
  | .opnd o => (s.rd8 o).2
  | .imm _ => s

/-- The length of the instruction. -/
def AluOperand.len (x : AluOperand) : Word :=
  match x with
  | .opnd _ => 1
  | .imm _ => 2

/-- The printed cycle figure: 8 for `(HL)` and the immediate forms, else 4 (R120; informative, R262). -/
def AluOperand.cycles (x : AluOperand) : Nat :=
  match x with
  | .opnd o => if o = .mhl then 8 else 4
  | .imm _ => 8

/-! ## Frames -/

/-- The value of a register operand. -/
def State.reg (s : State) (o : Opnd8) : Byte := (s.rd8 o).1

/-- Every byte of memory reads as before. -/
def KeepsMemory (s t : State) : Prop := ∀ x, t.peek x = s.peek x

/-- An instruction of `len` bytes wrote at most the 8-bit registers `ds`, and nothing else. -/
def OnlyRegs (ds : List Opnd8) (len : Word) (s t : State) : Prop :=
  t = { s with a := t.a, b := t.b, c := t.c, d := t.d, e := t.e, h := t.h, l := t.l, pc := s.pc + len } ∧
  ∀ o, o ≠ .mhl → o ∉ ds → t.reg o = s.reg o

/-- The same where the flags are written too. -/
def OnlyRegsFlags (ds : List Opnd8) (len : Word) (s t : State) : Prop :=
  t = { s with
    a := t.a, b := t.b, c := t.c, d := t.d, e := t.e, h := t.h, l := t.l
    fZ := t.fZ, fN := t.fN, fH := t.fH, fC := t.fC, pc := s.pc + len } ∧
  ∀ o, o ≠ .mhl → o ∉ ds → t.reg o = s.reg o

/-- An instruction of `len` bytes wrote the pair `p` and nothing else. -/
def OnlyPair (p : Pair) (len : Word) (s t : State) : Prop :=
  t = { s with b := t.b, c := t.c, d := t.d, e := t.e, h := t.h, l := t.l, sp := t.sp, pc := s.pc + len } ∧
  ∀ q, q ≠ p → t.getPair q = s.getPair q

/-- An instruction of `len` bytes stored the byte `v` at `x` through the memory map, and did nothing
else: every other byte reads as before, and a byte of RAM now reads `v`. -/
def StoresByte (x : Word) (v : Byte) (len : Word) (s t : State) : Prop :=
  t = { s.memWrite x v with pc := s.pc + len } ∧
  t = { s with mem := t.mem, platform := { s.platform with bus := t.platform.bus, cells := t.platform.cells }, pc := s.pc + len } ∧
  (∀ y, y ≠ x → t.peek y = s.peek y) ∧
  (s.kindAt x = .ram → s.mem.wf = true → t.peek x = v)

/-- The instructions that read `(HL)` and write it back (R34). -/
def RewritesMhl (i : Instr) : Prop :=
  i = .inc_mhl ∨ i = .dec_mhl ∨ (∃ op, i = .ofShift op .mhl) ∨ (∃ k, i = .ofSet k .mhl) ∨ ∃ k, i = .ofRes k .mhl

/-- An instruction of `len` bytes read its operand `o`, wrote `w` back to it and set the flags to `f`:
a register form touches no memory and no other register, the `(HL)` form no register and no byte but
the one at HL. -/
def RewritesOperand (o : Opnd8) (w : Byte) (f : Flags) (len : Word) (s t : State) : Prop :=
  t = { (s.rd8 o).2.wr8 o w with fZ := f.z, fN := f.n, fH := f.h, fC := f.c, pc := s.pc + len } ∧
  t = { s with
    a := t.a, b := t.b, c := t.c, d := t.d, e := t.e, h := t.h, l := t.l
    fZ := f.z, fN := f.n, fH := f.h, fC := f.c, pc := s.pc + len
    mem := t.mem, platform := { s.platform with bus := t.platform.bus, cells := t.platform.cells } } ∧
  (∀ o', o' ≠ o → o' ≠ .mhl → t.reg o' = s.reg o') ∧
  (o ≠ .mhl → t.reg o = w ∧ KeepsMemory s t) ∧
  (o = .mhl → (∀ y, y ≠ s.hl → t.peek y = s.peek y) ∧ (s.kindAt s.hl = .ram → s.mem.wf = true → t.peek s.hl = w))

/-- `ret` was pushed and control went to `target`, and nothing else happened (R104, R200): the high byte
is at SP-1, the low byte at SP-2, every other byte reads as before. -/
def PushesAndJumps (ret target : Word) (s t : State) : Prop :=
  t = { (s.memWrite (s.sp - 1) (hiByte ret)).memWrite (s.sp - 2) (loByte ret) with sp := s.sp - 2, pc := target } ∧
  t = { s with mem := t.mem, platform := { s.platform with bus := t.platform.bus, cells := t.platform.cells }, sp := s.sp - 2, pc := target } ∧
  (∀ y, y ≠ s.sp - 1 → y ≠ s.sp - 2 → t.peek y = s.peek y) ∧
  (s.mem.wf = true → s.kindAt (s.sp - 1) = .ram → t.peek (s.sp - 1) = hiByte ret) ∧
  (s.mem.wf = true → s.kindAt (s.sp - 2) = .ram → t.peek (s.sp - 2) = loByte ret)

/-- The two bytes `pop16` reads, low first, and the state after the reads. -/
def State.stackTop (s : State) : Byte × Byte × State :=
  let lo := s.memRead s.sp
  let hi := lo.2.memRead (s.sp + 1)
  (lo.1, hi.1, hi.2)

/-- `pc` was popped, and nothing else happened (R104, R210). -/
def PopsPc (s t : State) : Prop :=
  t = { s.stackTop.2.2 with sp := s.sp + 2, pc := joinBytes s.stackTop.2.1 s.stackTop.1 } ∧
  t = { s with platform := { s.platform with bus := t.platform.bus, cells := t.platform.cells }, sp := s.sp + 2, pc := t.pc } ∧
  KeepsMemory s t

/-- `x` holds stored memory: a read there gives the stored byte and has no side effect. -/
def State.storedAt (s : State) (x : Word) : Bool := decide (s.kindAt x = .ram) || decide (s.kindAt x = .rom)

/-- The three bytes from `pc` on are stored memory and decode to `i`. -/
def State.holdsAtPc (s : State) (i : Instr) : Prop :=
  s.storedAt s.pc = true ∧ s.storedAt (s.pc + 1) = true ∧ s.storedAt (s.pc + 2) = true ∧
  decodeBytes (s.peek s.pc) (s.peek (s.pc + 1)) (s.peek (s.pc + 2)) = some i

end Sys2Proof.Machine
end

