-- ==== Sys2Proof/WellFormed.lean ====
section
/-! DEFINITION. Well-formedness. Every operand of `Instr` is a byte or a word of the width the
encoding gives it, and every register, bit number and condition is part of the constructor, so there
is no ill-formed instruction term (R55, R56, R58: "not extended, not scaled", every value allowed).
The checks that can fail are those of the platform's memory map. -/

namespace Sys2Proof

/-- Every term of `Instr` is well formed: each field has exactly the values its encoding admits. -/
def Instr.wf (_ : Instr) : Bool := true

namespace Config

/-- A window is a non-empty range inside the 65536 addresses (20_memory.md R30). -/
def Window.wf (w : Window) : Bool := decide (w.first ≤ w.last) && decide (w.last < 65536)

/-- Two windows share no address. -/
def Window.disjoint (v w : Window) : Bool := decide (v.last < w.first) || decide (w.last < v.first)

/-- The windows of a map are each well formed and no two overlap, so each address has one meaning. -/
def memMapWf : List Window → Bool
  | [] => true
  | w :: ws => w.wf && ws.all w.disjoint && memMapWf ws

/-- A configuration is well formed when its memory map is. -/
def Params.wf (p : Params) : Bool := memMapWf p.memMap

end Config

end Sys2Proof
end

