-- ==== Sys2Proof/Certificates/Slice0/Obligations.lean ====
section
/-! DEFINITION. The statements for the provers. The figures in `cycles` are the source's printed ones, informative by R262
(entry 21). Each docstring names the rule or section it rests on;
where a statement rests on a choice of the spec (a decision D<n>) or of the model (entry <n> of the
assumption log) it says so. -/

open Sys2Proof Sys2Proof.Machine

/-! ## Reset and invariants -/

/-- What reset leaves. `mode` and `imePending` are fixed by the spec's decision D21 (R25, R250); the
register values (entry 1), the contents of memory (entry 2), the quiet platform (entries 3, 5) and the
default parameters (entry 6) are the model's choice. -/
def Obligations.ResetState : Prop :=
  State.reset.mode = .running ∧ State.reset.imePending = .none ∧
  State.reset.a = 0x01 ∧ State.reset.f = 0xB0 ∧ State.reset.bc = 0x0013 ∧ State.reset.de = 0x00D8 ∧
  State.reset.hl = 0x014D ∧ State.reset.sp = 0xFFFE ∧ State.reset.pc = 0x0100 ∧ State.reset.ime = false ∧
  (∀ x, State.reset.peek x = 0x00) ∧ State.reset.platform = Platform.quiet ∧
  State.reset.params = Config.Params.default

/-- Reset meets the invariants: memory and the platform cells are in canonical form (entries 2, 3) and the memory
map is well formed. -/
def Obligations.ResetMeetsTheInvariants : Prop :=
  State.reset.mem.wf = true ∧ State.reset.platform.cells.canonical = true ∧ State.reset.params.wf = true

/-- The canonical form of memory (entry 2: equal memories are equal data) is kept by every step, whatever
the instruction, an interrupt entry or the platform writes; so is that of the platform cells, whatever map or
source is given (entry 3). -/
def Obligations.StepKeepsCanonicalMemory : Prop :=
  ∀ s t : State, step s = .next t →
    (s.mem.wf = true → t.mem.wf = true) ∧ (s.platform.cells.canonical = true → t.platform.cells.canonical = true)

/-- The parameters are configuration, not state (10_state.md R24): no step changes them (entry 6). -/
def Obligations.StepKeepsTheParameters : Prop :=
  ∀ s t : State, step s = .next t → t.params = s.params

/-! ## Encoding -/

/-- Decoding an encoded instruction gives it back and leaves the bytes after it. -/
def Obligations.DecodeOfEncode : Prop :=
  ∀ (i : Instr) (rest : List Byte), i.wf = true → decode (encode i ++ rest) = .instr i rest

/-- Only the encoding of an instruction decodes to it: every sequence of bytes has at most one reading
(30_encoding.md section 6). -/
def Obligations.EncodeOfDecode : Prop :=
  ∀ (bytes rest : List Byte) (i : Instr), decode bytes = .instr i rest → bytes = encode i ++ rest

/-- Words the source's tables print in full: an unprefixed load, an immediate store, an address. The others are
words as the spec decides them where the source does not print them: the bit number in bits 5 to 3 of the second
byte (CB 7C, CB DE; decision D11, entry 13), DE for SBC A,#, which the source prints "??" (decision D10, entry
13), STOP as the two bytes 10 00 (decision D20, entry 18), and D3 as no instruction (decision D9, entry 9). -/
def Obligations.ListedWordsDecode : Prop :=
  decode [0x78] = .instr .ld_a_b [] ∧ decode [0x36, 0xFF] = .instr (.ld_mhl_n 0xFF) [] ∧
  decode [0xFA, 0x34, 0x12] = .instr (.ld_a_mnn 0x1234) [] ∧ decode [0xCB, 0x7C] = .instr .bit_7_h [] ∧
  decode [0xCB, 0xDE] = .instr .set_3_mhl [] ∧ decode [0xDE, 0x0F] = .instr (.sbc_a_n 0x0F) [] ∧
  decode [0x10, 0x00] = .instr .stop [] ∧ decode [0xD3] = .rejected (.illegalOpcode 0xD3)

/-- The bytes that are no instruction are exactly the eleven unlisted ones and `10 xx` with `xx` other
than 00: the spec's decisions D9 and D20 (30_encoding.md section 5; entries 9, 18). -/
def Obligations.IllegalOpcodesAreExactlyThese : Prop :=
  ∀ b0 b1 b2 : Byte, decodeBytes b0 b1 b2 = none ↔
    b0 ∈ ([0xD3, 0xDB, 0xDD, 0xE3, 0xE4, 0xEB, 0xEC, 0xED, 0xF4, 0xFC, 0xFD] : List Byte) ∨ (b0 = 0x10 ∧ b1 ≠ 0x00)

/-- Running one of them is the fault `IllegalOpcode(byte)`, the spec's decision D9 (entry 9), whatever lies at the
addresses the bytes are read from. -/
def Obligations.IllegalOpcodeFaults : Prop :=
  ∀ s u : State, s.deliver = u → u.mode = .running → u.intTaken = none →
    let r0 := u.memRead u.pc
    let r1 := r0.2.memRead (u.pc + 1)
    (r0.1 ∈ ([0xD3, 0xDB, 0xDD, 0xE3, 0xE4, 0xEB, 0xEC, 0xED, 0xF4, 0xFC, 0xFD] : List Byte) ∨ (r0.1 = 0x10 ∧ r1.1 ≠ 0x00)) →
    step s = .fault (.illegalOpcode r0.1)

/-! ## The step -/

/-- A running step with no interrupt to take runs the instruction whose bytes stand at `pc`: `step` is
`exec` of it, on the state in which the platform's doings are delivered and the change of IME that was
pending is made (R225, R150; entries 5, 8). Where the bytes at `pc` are not stored memory, the bytes are those the
memory map answers, and the state is the one those reads leave (R37; entry 3). -/
def Obligations.StepRunsTheDecodedInstruction : Prop :=
  ∀ (s u : State) (i : Instr), s.deliver = u → u.mode = .running → u.intTaken = none →
    (u.holdsAtPc i → step s = exec i u.applyImePending) ∧
    (let r0 := u.memRead u.pc
     let r1 := r0.2.memRead (u.pc + 1)
     let r2 := r1.2.memRead (u.pc + 2)
     (lengthOf r0.1 = 1 → decodeBytes r0.1 0 0 = some i → step s = exec i r0.2.applyImePending) ∧
     (lengthOf r0.1 = 2 → decodeBytes r0.1 r1.1 0 = some i → step s = exec i r1.2.applyImePending) ∧
     (lengthOf r0.1 = 3 → decodeBytes r0.1 r1.1 r2.1 = some i → step s = exec i r2.2.applyImePending))

/-- A fetch reads memory as the latest store left it, and reads no more bytes than the instruction has
(20_memory.md section 9, decision D7; 30_encoding.md section 6): after a store of `v` to RAM at `pc` the
instruction fetched is that of `v`; a one-byte instruction's fetch changes nothing. -/
def Obligations.FetchSeesTheLatestStore : Prop :=
  ∀ (s : State) (v : Byte) (i : Instr), s.mem.wf = true → s.kindAt s.pc = .ram → lengthOf v = 1 →
    decodeBytes v 0 0 = some i → (s.memWrite s.pc v).fetch = .instr i (s.memWrite s.pc v)

/-- Every instruction that is no jump, call, restart or return leaves `pc` at the address after it
(10_state.md section 2, decision D3). -/
def Obligations.PcAdvancesByTheLength : Prop :=
  ∀ (i : Instr) (s t : State), isTransfer i = false → exec i s = .next t →
    t.pc = s.pc + BitVec.ofNat 16 (encode i).length

/-- Every instruction affects the flags as the table of R16 says: kept, reset, set, or computed by its
own rule; an instruction not in the table affects none. -/
def Obligations.FlagsFollowTheTable : Prop :=
  ∀ (i : Instr) (s t : State), exec i s = .next t →
    (flagRow i).z.allows s.fZ t.fZ ∧ (flagRow i).n.allows s.fN t.fN ∧
    (flagRow i).h.allows s.fH t.fH ∧ (flagRow i).c.allows s.fC t.fC

/-- No instruction raises an exception: each completes in every state (60_exceptions.md section 1). -/
def Obligations.EveryInstructionCompletes : Prop :=
  ∀ (i : Instr) (s : State), ∃ t, exec i s = .next t

/-- Only HALT and STOP change the mode when they execute (10_state.md section 7). -/
def Obligations.OnlyHaltAndStopChangeTheMode : Prop :=
  ∀ (i : Instr) (s t : State), exec i s = .next t →
    t.mode = if i = .halt then .halted else if i = .stop then .stopped else s.mode

/-- IME and `ime_pending` after any instruction are those of the completion step (44_misc.md, the
pseudocode of R150, decision D17): what was pending when it began is applied first, then EI, DI or RETI
make their own change (entries 8, 25). -/
def Obligations.ImeFollowsTheCompletionStep : Prop :=
  ∀ (i : Instr) (s t : State), exec i s.applyImePending = .next t →
    (t.ime, t.imePending) = completion s.params.diDelay s.ime s.imePending i

/-- IME "is not readable by any instruction": what an instruction other than EI, DI and RETI does is the
same whatever IME and `ime_pending` hold, and it leaves both as they are (10_state.md section 4). -/
def Obligations.NoInstructionReadsIme : Prop :=
  ∀ (i : Instr) (s t : State) (x : Bool) (p : ImePending), i ≠ .ei → i ≠ .di → i ≠ .reti → exec i s = .next t →
    t.ime = s.ime ∧ t.imePending = s.imePending ∧
    exec i { s with ime := x, imePending := p } = .next { t with ime := x, imePending := p }

/-- An instruction reaches the platform only by its accesses to device and given addresses (20_memory.md R36; entries
3, 4, 5): requests, wake signal and arrivals stay, the log of device accesses only grows, and where no address has
a given map the platform cells stay. -/
def Obligations.ExecTouchesThePlatformOnlyByAccesses : Prop :=
  ∀ (i : Instr) (s t : State), exec i s = .next t →
    t.platform = { s.platform with bus := t.platform.bus, cells := t.platform.cells } ∧
    s.platform.bus <:+ t.platform.bus ∧
    ((∀ (x : Word) (m : Config.GivenMap), s.kindAt x ≠ .given m) → t.platform.cells = s.platform.cells)

/-! ## Interrupts and low-power states -/

/-- Taking an interrupt (60_exceptions.md section 4, decision D18; entry 17), from the running and from the
halted state: IME is cleared, a scheduled change is cancelled, the CPU runs, the address of the next
instruction is pushed, control goes to the vector, and every register and flag is kept. -/
def Obligations.InterruptEntry : Prop :=
  ∀ (s u w : State) (vector : Word), s.deliver = u → u.mode ≠ .stopped → u.ime = true → u.intSelect = some (vector, w) →
    ∃ t, step s = .next t ∧
      PushesAndJumps u.pc vector { w with ime := false, imePending := .none, mode := .running } t ∧
      t.ime = false ∧ t.imePending = .none ∧ t.mode = .running ∧ t.pc = vector ∧ t.sp = u.sp - 2 ∧
      t.a = u.a ∧ t.f = u.f ∧ t.bc = u.bc ∧ t.de = u.de ∧ t.hl = u.hl

/-- The low-power states (60_exceptions.md section 6, decisions D19 and D20; entries 17, 18). Halted: with
no request nothing changes; with one and IME clear execution goes on at `pc` with no handler entered.
Stopped: the wake event resumes execution at `pc`, without it nothing changes. -/
def Obligations.HaltedAndStoppedSteps : Prop :=
  ∀ s u : State, s.deliver = u →
    (u.mode = .halted → u.intPending = false → step s = .next u) ∧
    (u.mode = .halted → u.intPending = true → u.ime = false → step s = .next { u with mode := .running }) ∧
    (u.mode = .stopped → u.stopWake = false → step s = .next u) ∧
    (u.mode = .stopped → u.stopWake = true → step s = .next { u with mode := .running })

/-- EI with IME clear (44_misc.md R149, decision D17; entry 25): the instruction after it runs before any
interrupt is taken, whatever is requested, and runs with IME set from then on. -/
def Obligations.EiDelaysOneInstruction : Prop :=
  ∀ (s : State) (i : Instr), s.ime = false → s.mode = .running →
    ∃ t, exec .ei s = .next t ∧
      (t.deliver.holdsAtPc i →
        step t = exec i { t.deliver with ime := true, imePending := .none })

/-- An interrupt whose handler is RETI leaves everything as it was but IME set, and the two bytes below
the stack (60_exceptions.md sections 4 and 5; entry 17). -/
def Obligations.InterruptThenRetiResumes : Prop :=
  ∀ (s u w : State) (vector : Word), s.deliver = u → u.mode ≠ .stopped → u.ime = true → u.intSelect = some (vector, w) →
    w.mem.wf = true → u.kindAt (u.sp - 1) = .ram → u.kindAt (u.sp - 2) = .ram →
    ∃ t v, step s = .next t ∧ exec .reti t = .next v ∧
      v = { w with mem := t.mem, ime := true, imePending := .none, mode := .running } ∧ v.pc = u.pc ∧ v.sp = u.sp

/-- A finished run stays where it is for ever (70_reset_and_hazards.md section 4, decision D27): any number
of steps changes no register, flag, SP, pc, interrupt state or mode. -/
def Obligations.FinishedRunStutters : Prop :=
  ∀ (s : State) (n : Nat), s.finished = true → ∃ t, Sys2Proof.core.run n s = .next t ∧ SameCpu s t ∧ State.finished t = true

/-- The interrupt source of R222 in the model's form (entry 5): pending exactly when a request is
presented; the first one is served and dropped. -/
def Obligations.ExternalSourceServesInOrder : Prop :=
  ∀ s : State, s.params.intSource = .external →
    (s.intPending = false ↔ s.platform.requests = []) ∧
    ∀ v vs, s.platform.requests = v :: vs →
      s.intSelect = some (v, { s with platform := { s.platform with requests := vs } })

/-- The informative instance of the interrupt source (60_exceptions.md R223, general knowledge; entry 7):
pending is `(IE and IF and 0x1F) != 0`; the lowest-numbered set bit is served, its bit of IF cleared,
and its vector is 0x40 + 8 * bit. That the other bits of IF are kept says of bits 7 to 5 what the model chose (DESIGN
CHOICE, entry 27: R223 leaves them open). -/
def Obligations.GameBoySourceServesLowestBit : Prop :=
  ∀ s : State, s.params.intSource = .gameBoy →
    (s.intPending = false ↔ s.peek 0xFFFF &&& s.peek 0xFF0F &&& 0x1F = 0x00) ∧
    ∀ (v : Word) (w : State), s.mem.wf = true → s.intSelect = some (v, w) →
      ∃ k : Fin 5, (s.peek 0xFFFF &&& s.peek 0xFF0F).getLsbD k.val = true ∧
        (∀ j, j < k.val → (s.peek 0xFFFF &&& s.peek 0xFF0F).getLsbD j = false) ∧
        v = BitVec.ofNat 16 (0x40 + 8 * k.val) ∧
        (∀ j, j < 8 → (w.peek 0xFF0F).getLsbD j = ((s.peek 0xFF0F).getLsbD j && decide (j ≠ k.val))) ∧
        w = { s with mem := w.mem } ∧ ∀ x, x ≠ 0xFF0F → w.peek x = s.peek x

/-! ## The memory map -/

/-- Accesses through HL and the stack reach a device address exactly as often and in the order
20_memory.md R34 gives (decision D25; entry 4): a load reads once, a store writes once and does not
read, INC, DEC, rotates, SET and RES read then write, ALU operations and BIT only read; PUSH writes the
high byte then the low, POP reads the low byte then the high. At an address with a given map (20_memory.md R37; entry
3) the platform ends as the map's `read` and `write` leave it, called as often and in that order. -/
def Obligations.DevicesSeeEachAccessOnce : Prop :=
  ∀ (s : State),
    (s.kindAt s.hl = .device →
      let rd := Config.BusAccess.read s.hl (Config.deviceByte s.platform.bus s.hl)
      (∀ dst, dst ≠ .mhl → ∃ t, exec (.ofLd dst .mhl) s = .next t ∧ t.platform.bus = rd :: s.platform.bus) ∧
      (∀ src, src ≠ .mhl → ∃ t, exec (.ofLd .mhl src) s = .next t ∧ t.platform.bus = .write s.hl (s.reg src) :: s.platform.bus) ∧
      (∀ op, ∃ t, exec (.ofAlu op .mhl) s = .next t ∧ t.platform.bus = rd :: s.platform.bus) ∧
      (∀ k, ∃ t, exec (.ofBit k .mhl) s = .next t ∧ t.platform.bus = rd :: s.platform.bus) ∧
      (∀ i, RewritesMhl i → ∃ t w, exec i s = .next t ∧ t.platform.bus = .write s.hl w :: rd :: s.platform.bus)) ∧
    (s.kindAt (s.sp - 1) = .device → s.kindAt (s.sp - 2) = .device → ∀ p, ∃ t, exec (.ofPush p) s = .next t ∧
      t.platform.bus = .write (s.sp - 2) (loByte (s.getStackPair p)) :: .write (s.sp - 1) (hiByte (s.getStackPair p)) :: s.platform.bus) ∧
    (s.kindAt s.sp = .device → s.kindAt (s.sp + 1) = .device → ∀ p,
      let lo := Config.BusAccess.read s.sp (Config.deviceByte s.platform.bus s.sp)
      let hi := Config.BusAccess.read (s.sp + 1) (Config.deviceByte (lo :: s.platform.bus) (s.sp + 1))
      ∃ t, exec (.ofPop p) s = .next t ∧ t.platform.bus = hi :: lo :: s.platform.bus) ∧
    (∀ m, s.kindAt s.hl = .given m →
      let rd := s.readGiven m s.hl
      (∀ dst, dst ≠ .mhl → ∃ t, exec (.ofLd dst .mhl) s = .next t ∧ t.reg dst = rd.1 ∧ t.platform = rd.2.platform) ∧
      (∀ src, src ≠ .mhl → ∃ t, exec (.ofLd .mhl src) s = .next t ∧ t.platform = (s.writeGiven m s.hl (s.reg src)).platform) ∧
      (∀ op, ∃ t, exec (.ofAlu op .mhl) s = .next t ∧ t.platform = rd.2.platform) ∧
      (∀ k, ∃ t, exec (.ofBit k .mhl) s = .next t ∧ t.platform = rd.2.platform) ∧
      (∀ i, RewritesMhl i → ∃ t w, exec i s = .next t ∧ t.platform = (rd.2.writeGiven m s.hl w).platform)) ∧
    (∀ m n, s.kindAt (s.sp - 1) = .given m → s.kindAt (s.sp - 2) = .given n → ∀ p, ∃ t, exec (.ofPush p) s = .next t ∧
      t.platform = ((s.writeGiven m (s.sp - 1) (hiByte (s.getStackPair p))).writeGiven n (s.sp - 2) (loByte (s.getStackPair p))).platform) ∧
    (∀ m n, s.kindAt s.sp = .given m → s.kindAt (s.sp + 1) = .given n → ∀ p,
      ∃ t, exec (.ofPop p) s = .next t ∧ t.platform = ((s.readGiven m s.sp).2.readGiven n (s.sp + 1)).2.platform)

/-- Addresses that ignore writes, and absent ones (20_memory.md R36; entry 3): a store there changes
nothing but `pc`, and a load from an absent address gives the value its window names. -/
def Obligations.RomAndAbsentAddresses : Prop :=
  ∀ (s : State) (r : Opnd8), r ≠ .mhl →
    (s.kindAt s.hl = .rom → exec (.ofLd .mhl r) s = .next { s with pc := s.pc + 1 } ∧
      ∃ t, exec (.ofLd r .mhl) s = .next t ∧ t.reg r = s.peek s.hl ∧ OnlyRegs [r] 1 s t) ∧
    (∀ v, s.kindAt s.hl = .absent v → exec (.ofLd .mhl r) s = .next { s with pc := s.pc + 1 } ∧
      ∃ t, exec (.ofLd r .mhl) s = .next t ∧ t.reg r = v ∧ OnlyRegs [r] 1 s t)

/-! ## 8-bit loads -/

/-- `LD r1,r2` with both operands registers: 49 opcodes `01 ddd sss`; r1 gets r2, nothing else changes but
`pc` (R71). -/
def Obligations.LoadRegisterFromRegister : Prop :=
  ∀ (dst src : Opnd8) (s : State), dst ≠ .mhl → src ≠ .mhl →
    encode (.ofLd dst src) = [BitVec.ofNat 8 (0x40 + 8 * dst.code + src.code)] ∧ (Instr.ofLd dst src).cycles = 4 ∧
    ∃ t, exec (.ofLd dst src) s = .next t ∧ t.reg dst = s.reg src ∧ OnlyRegs [dst] 1 s t ∧ KeepsMemory s t

/-- `LD r,(HL)`: r gets the byte at the address HL held before, by one read; nothing else changes (R72). -/
def Obligations.LoadRegisterFromMemory : Prop :=
  ∀ (dst : Opnd8) (s : State), dst ≠ .mhl →
    encode (.ofLd dst .mhl) = [BitVec.ofNat 8 (0x46 + 8 * dst.code)] ∧ (Instr.ofLd dst .mhl).cycles = 8 ∧
    ∃ t, exec (.ofLd dst .mhl) s = .next t ∧ t.reg dst = (s.memRead s.hl).1 ∧
      OnlyRegs [dst] 1 (s.memRead s.hl).2 t ∧ KeepsMemory s t

/-- `LD (HL),r` and `LD (HL),n`: one byte is stored at HL (R73, R74); byte 76, the pattern's
`LD (HL),(HL)`, is HALT (R73). -/
def Obligations.StoreToMemoryAtHl : Prop :=
  ∀ (s : State),
    (∀ src : Opnd8, src ≠ .mhl → encode (.ofLd .mhl src) = [BitVec.ofNat 8 (0x70 + src.code)] ∧ (Instr.ofLd .mhl src).cycles = 8 ∧
      ∃ t, exec (.ofLd .mhl src) s = .next t ∧ StoresByte s.hl (s.reg src) 1 s t) ∧
    (∀ n : Byte, encode (.ld_mhl_n n) = [0x36, n] ∧ (Instr.ld_mhl_n n).cycles = 12 ∧
      ∃ t, exec (.ld_mhl_n n) s = .next t ∧ StoresByte s.hl n 2 s t) ∧
    decode [0x76] = .instr .halt []

/-- `LD r,n` and `LD A,#`: the register gets the immediate byte, nothing else changes (R70, R78). -/
def Obligations.LoadImmediateByte : Prop :=
  ∀ (dst : Opnd8) (n : Byte) (s : State), dst ≠ .mhl →
    encode (.ofLdImm dst n) = [BitVec.ofNat 8 (0x06 + 8 * dst.code), n] ∧ (Instr.ofLdImm dst n).cycles = 8 ∧
    ∃ t, exec (.ofLdImm dst n) s = .next t ∧ t.reg dst = n ∧ OnlyRegs [dst] 2 s t ∧ KeepsMemory s t

/-- The loads of A from an address: (BC), (DE), (nn), (FF00+C), (FF00+n), the offset unsigned (R75, R76,
R77, R82, R89). -/
def Obligations.LoadAFromAddress : Prop :=
  ∀ (s : State) (nn : Word) (n : Byte),
    (encode .ld_a_mbc = [0x0A] ∧ encode .ld_a_mde = [0x1A] ∧ encode (.ld_a_mnn nn) = [0xFA, loByte nn, hiByte nn] ∧
      encode .ld_a_mc = [0xF2] ∧ encode (.ldh_a_mn n) = [0xF0, n]) ∧
    (Instr.ld_a_mbc.cycles = 8 ∧ Instr.ld_a_mde.cycles = 8 ∧ (Instr.ld_a_mnn nn).cycles = 16 ∧
      Instr.ld_a_mc.cycles = 8 ∧ (Instr.ldh_a_mn n).cycles = 12) ∧
    ∀ (i : Instr) (addr len : Word),
      (i, addr, len) ∈ [(.ld_a_mbc, s.bc, 1), (.ld_a_mde, s.de, 1), (.ld_a_mnn nn, nn, 3),
        (.ld_a_mc, BitVec.ofNat 16 (0xFF00 + s.c.toNat), 1), (.ldh_a_mn n, BitVec.ofNat 16 (0xFF00 + n.toNat), 2)] →
      ∃ t, exec i s = .next t ∧ t.a = (s.memRead addr).1 ∧ OnlyRegs [.a] len (s.memRead addr).2 t ∧ KeepsMemory s t

/-- The stores of A to an address: (BC), (DE), (nn), (FF00+C), (FF00+n), the offset unsigned (R79, R80,
R81, R83, R88): one byte is written. -/
def Obligations.StoreAToAddress : Prop :=
  ∀ (s : State) (nn : Word) (n : Byte),
    (encode .ld_mbc_a = [0x02] ∧ encode .ld_mde_a = [0x12] ∧ encode (.ld_mnn_a nn) = [0xEA, loByte nn, hiByte nn] ∧
      encode .ld_mc_a = [0xE2] ∧ encode (.ldh_mn_a n) = [0xE0, n]) ∧
    (Instr.ld_mbc_a.cycles = 8 ∧ Instr.ld_mde_a.cycles = 8 ∧ (Instr.ld_mnn_a nn).cycles = 16 ∧
      Instr.ld_mc_a.cycles = 8 ∧ (Instr.ldh_mn_a n).cycles = 12) ∧
    ∀ (i : Instr) (addr len : Word),
      (i, addr, len) ∈ [(.ld_mbc_a, s.bc, 1), (.ld_mde_a, s.de, 1), (.ld_mnn_a nn, nn, 3),
        (.ld_mc_a, BitVec.ofNat 16 (0xFF00 + s.c.toNat), 1), (.ldh_mn_a n, BitVec.ofNat 16 (0xFF00 + n.toNat), 2)] →
      ∃ t, exec i s = .next t ∧ StoresByte addr s.a len s t

/-- LDD and LDI: the access uses the HL of before, then HL is one less or one more modulo 65536; no flag
changes (R84 to R87). -/
def Obligations.LoadAndStepHl : Prop :=
  ∀ s : State,
    encode .ldd_a_mhl = [0x3A] ∧ encode .ldd_mhl_a = [0x32] ∧ encode .ldi_a_mhl = [0x2A] ∧ encode .ldi_mhl_a = [0x22] ∧
    (∀ i ∈ [Instr.ldd_a_mhl, .ldd_mhl_a, .ldi_a_mhl, .ldi_mhl_a], i.cycles = 8) ∧
    (∀ (i : Instr) (hl : Word), (i, hl) ∈ [(.ldd_a_mhl, s.hl - 1), (.ldi_a_mhl, s.hl + 1)] →
      ∃ t, exec i s = .next t ∧ t.a = (s.memRead s.hl).1 ∧ t.hl = hl ∧
        OnlyRegs [.a, .h, .l] 1 (s.memRead s.hl).2 t ∧ KeepsMemory s t) ∧
    (∀ (i : Instr) (hl : Word), (i, hl) ∈ [(.ldd_mhl_a, s.hl - 1), (.ldi_mhl_a, s.hl + 1)] →
      ∃ t, exec i s = .next t ∧ t.hl = hl ∧ StoresByte s.hl s.a 1 s { t with h := s.h, l := s.l })

/-! ## 16-bit loads and the stack -/

/-- `LD rr,nn` and `LD SP,HL` (41_loads16.md R100, whose byte order is derived, and R101). -/
def Obligations.LoadPairs : Prop :=
  ∀ (s : State),
    (∀ (p : Pair) (nn : Word), encode (.ofLdPair p nn) = [BitVec.ofNat 8 (0x01 + 16 * p.code), loByte nn, hiByte nn] ∧
      ∃ t, exec (.ofLdPair p nn) s = .next t ∧ t.getPair p = nn ∧ OnlyPair p 3 s t ∧ KeepsMemory s t) ∧
    exec .ld_sp_hl s = .next { s with sp := s.hl, pc := s.pc + 1 }

/-- LDHL SP,n and ADD SP,n (41_loads16.md R102, 43_alu16.md R131; the two carries are decision D14, entry
15): the sum of SP and the signed byte, Z and N reset, H and C the carries of the low byte of SP plus the
unsigned byte. -/
def Obligations.SpPlusSignedByte : Prop :=
  ∀ (s : State) (e8 : Byte),
    let sum := s.sp.toNat + (if e8.toNat < 128 then e8.toNat else e8.toNat + 0xFF00)
    let h := decide (s.sp.toNat % 16 + e8.toNat % 16 > 0x0F)
    let c := decide (s.sp.toNat % 256 + e8.toNat > 0xFF)
    (∃ t, exec (.ldhl_sp_e8 e8) s = .next t ∧ t.hl.toNat = sum % 65536 ∧
      t.fZ = false ∧ t.fN = false ∧ t.fH = h ∧ t.fC = c ∧ OnlyRegsFlags [.h, .l] 2 s t ∧ KeepsMemory s t) ∧
    (∃ t, exec (.add_sp_e8 e8) s = .next t ∧ t.sp.toNat = sum % 65536 ∧
      t = { s with sp := t.sp, fZ := false, fN := false, fH := h, fC := c, pc := s.pc + 2 } ∧ KeepsMemory s t)

/-- `LD (nn),SP` stores SP low byte first (41_loads16.md R103, decision D4, entry 11): a byte load from `nn + 1`
afterwards gives the high byte. -/
def Obligations.StoreSpLittleEndian : Prop :=
  ∀ (s : State) (nn : Word), ∃ t, exec (.ld_mnn_sp nn) s = .next t ∧
    t = { (s.memWrite nn (loByte s.sp)).memWrite (nn + 1) (hiByte s.sp) with pc := s.pc + 3 } ∧
    t = { s with mem := t.mem, platform := { s.platform with bus := t.platform.bus, cells := t.platform.cells }, pc := s.pc + 3 } ∧
    (∀ y, y ≠ nn → y ≠ nn + 1 → t.peek y = s.peek y) ∧
    (s.mem.wf = true → s.kindAt nn = .ram → t.peek nn = loByte s.sp) ∧
    (s.mem.wf = true → s.kindAt (nn + 1) = .ram → t.peek (nn + 1) = hiByte s.sp)

/-- PUSH (41_loads16.md R104, R105, decisions D2 and D4, entries 10, 11): SP is two less, the high byte is
at SP-1 and the low byte at SP-2, the pair is unchanged; PUSH AF stores F with its low nibble zero. -/
def Obligations.PushStoresThePair : Prop :=
  ∀ (s : State) (p : StackPair), ∃ t, exec (.ofPush p) s = .next t ∧
    PushesAndJumps (s.getStackPair p) (s.pc + 1) s t ∧
    s.getStackPair p = (match p with
      | .bc => joinBytes s.b s.c
      | .de => joinBytes s.d s.e
      | .hl => joinBytes s.h s.l
      | .af => joinBytes s.a (BitVec.ofNat 8 (s.fZ.toNat * 128 + s.fN.toNat * 64 + s.fH.toNat * 32 + s.fC.toNat * 16)))

/-- POP (41_loads16.md R104, R106, decisions D4 and D24, entries 10, 11): the low byte is read at SP, then the
high byte at SP+1, SP is two more; POP AF loads the flags from bits 7:4 of the low byte. -/
def Obligations.PopLoadsThePair : Prop :=
  ∀ (s : State) (p : StackPair), ∃ t, exec (.ofPop p) s = .next t ∧
    t = (match p with
      | .bc => { s.stackTop.2.2 with b := s.stackTop.2.1, c := s.stackTop.1, sp := s.sp + 2, pc := s.pc + 1 }
      | .de => { s.stackTop.2.2 with d := s.stackTop.2.1, e := s.stackTop.1, sp := s.sp + 2, pc := s.pc + 1 }
      | .hl => { s.stackTop.2.2 with h := s.stackTop.2.1, l := s.stackTop.1, sp := s.sp + 2, pc := s.pc + 1 }
      | .af => { s.stackTop.2.2 with
          a := s.stackTop.2.1
          fZ := s.stackTop.1.getLsbD 7, fN := s.stackTop.1.getLsbD 6, fH := s.stackTop.1.getLsbD 5, fC := s.stackTop.1.getLsbD 4
          sp := s.sp + 2, pc := s.pc + 1 }) ∧
    KeepsMemory s t

/-- A POP right after a PUSH of the same pair restores it, SP and every flag exactly (41_loads16.md R104,
R106; entries 10, 11). -/
def Obligations.PushThenPopRestores : Prop :=
  ∀ (s : State) (p : StackPair), s.mem.wf = true → s.kindAt (s.sp - 1) = .ram → s.kindAt (s.sp - 2) = .ram →
    ∃ t u, exec (.ofPush p) s = .next t ∧ exec (.ofPop p) t = .next u ∧ u = { s with mem := t.mem, pc := s.pc + 2 }

/-! ## 8-bit ALU -/

/-- ADD and ADC (R110, R111): the sum modulo 256, Z if it is zero, N reset, H on carry from bit 3, C on
carry from bit 7, the incoming carry taking part for ADC. -/
def Obligations.AddAndAdc : Prop :=
  ∀ (s : State) (x : AluOperand) (op : AluOp), op = .add ∨ op = .adc →
    let v := x.value s
    let cin := if op = .adc then s.fC.toNat else 0
    encode (x.instr op) = x.bytes op ∧ (x.instr op).cycles = x.cycles ∧
    ∃ t, exec (x.instr op) s = .next t ∧ t.a.toNat = (s.a.toNat + v.toNat + cin) % 256 ∧
      t.fZ = decide (t.a = 0) ∧ t.fN = false ∧ t.fH = decide (s.a.toNat % 16 + v.toNat % 16 + cin > 0x0F) ∧
      t.fC = decide (s.a.toNat + v.toNat + cin > 0xFF) ∧ OnlyRegsFlags [.a] x.len (x.after s) t ∧ KeepsMemory s t

/-- SUB, SBC and CP (42_alu8.md R112, R113, R117; DE for SBC A,# is decision D10, entry 13; the polarity of
borrow is conflict C1, decision D12, entry 14): the difference modulo 256, Z if it is zero, N set, H and C on borrow; CP leaves A as it is. -/
def Obligations.SubSbcAndCp : Prop :=
  ∀ (s : State) (x : AluOperand) (op : AluOp), op = .sub ∨ op = .sbc ∨ op = .cp →
    let v := x.value s
    let cin := if op = .sbc then s.fC.toNat else 0
    let r := (s.a.toNat + 512 - v.toNat - cin) % 256
    encode (x.instr op) = x.bytes op ∧ (x.instr op).cycles = x.cycles ∧
    ∃ t, exec (x.instr op) s = .next t ∧ t.a.toNat = (if op = .cp then s.a.toNat else r) ∧
      t.fZ = decide (r = 0) ∧ t.fN = true ∧ t.fH = decide (s.a.toNat % 16 < v.toNat % 16 + cin) ∧
      t.fC = decide (s.a.toNat < v.toNat + cin) ∧ OnlyRegsFlags [.a] x.len (x.after s) t ∧ KeepsMemory s t

/-- AND, OR and XOR (R114, R115, R116): bitwise on A, Z if the result is zero, N and C reset, H set by AND
only. -/
def Obligations.LogicOperations : Prop :=
  ∀ (s : State) (x : AluOperand) (op : AluOp), op = .and ∨ op = .or ∨ op = .xor →
    let v := x.value s
    encode (x.instr op) = x.bytes op ∧ (x.instr op).cycles = x.cycles ∧
    ∃ t, exec (x.instr op) s = .next t ∧
      (∀ k, k < 8 → t.a.getLsbD k =
        if op = .and then (s.a.getLsbD k && v.getLsbD k) else if op = .or then (s.a.getLsbD k || v.getLsbD k)
        else (s.a.getLsbD k != v.getLsbD k)) ∧
      t.fZ = decide (t.a = 0) ∧ t.fN = false ∧ t.fH = decide (op = .and) ∧ t.fC = false ∧
      OnlyRegsFlags [.a] x.len (x.after s) t ∧ KeepsMemory s t

/-- 8-bit INC (R118): one more modulo 256, Z if it is zero, N reset, H if bits 3:0 were all ones, C kept. -/
def Obligations.IncByte : Prop :=
  ∀ (s : State) (o : Opnd8),
    let v := (s.rd8 o).1
    let w := BitVec.ofNat 8 ((v.toNat + 1) % 256)
    encode (.ofInc o) = [BitVec.ofNat 8 (0x04 + 8 * o.code)] ∧ (Instr.ofInc o).cycles = (if o = .mhl then 12 else 4) ∧
    ∃ t, exec (.ofInc o) s = .next t ∧
      RewritesOperand o w { z := decide (w = 0), n := false, h := decide (v.toNat % 16 = 0x0F), c := s.fC } 1 s t

/-- 8-bit DEC (42_alu8.md R119; the polarity of H is conflict C1, decision D12, entry 14): one less modulo 256, Z if
it is zero, N set, H if bits 3:0 were zero, C kept. -/
def Obligations.DecByte : Prop :=
  ∀ (s : State) (o : Opnd8),
    let v := (s.rd8 o).1
    let w := BitVec.ofNat 8 ((v.toNat + 255) % 256)
    encode (.ofDec o) = [BitVec.ofNat 8 (0x05 + 8 * o.code)] ∧ (Instr.ofDec o).cycles = (if o = .mhl then 12 else 4) ∧
    ∃ t, exec (.ofDec o) s = .next t ∧
      RewritesOperand o w { z := decide (w = 0), n := true, h := decide (v.toNat % 16 = 0), c := s.fC } 1 s t

/-! ## 16-bit arithmetic -/

/-- `ADD HL,rr` (R130): the sum modulo 65536, Z kept, N reset, H on carry from bit 11, C from bit 15. -/
def Obligations.AddHlPair : Prop :=
  ∀ (s : State) (p : Pair),
    let v := s.getPair p
    encode (.ofAddHl p) = [BitVec.ofNat 8 (0x09 + 16 * p.code)] ∧ (Instr.ofAddHl p).cycles = 8 ∧
    ∃ t, exec (.ofAddHl p) s = .next t ∧ t.hl.toNat = (s.hl.toNat + v.toNat) % 65536 ∧ t.fZ = s.fZ ∧ t.fN = false ∧
      t.fH = decide (s.hl.toNat % 4096 + v.toNat % 4096 > 0x0FFF) ∧ t.fC = decide (s.hl.toNat + v.toNat > 0xFFFF) ∧
      OnlyRegsFlags [.h, .l] 1 s t ∧ KeepsMemory s t

/-- 16-bit INC and DEC (R132, R133): one more or one less modulo 65536, and no flag changes. -/
def Obligations.IncAndDecPair : Prop :=
  ∀ (s : State) (p : Pair),
    (encode (.ofIncPair p) = [BitVec.ofNat 8 (0x03 + 16 * p.code)] ∧ (Instr.ofIncPair p).cycles = 8 ∧
      ∃ t, exec (.ofIncPair p) s = .next t ∧ (t.getPair p).toNat = ((s.getPair p).toNat + 1) % 65536 ∧
        OnlyPair p 1 s t ∧ KeepsMemory s t) ∧
    (encode (.ofDecPair p) = [BitVec.ofNat 8 (0x0B + 16 * p.code)] ∧ (Instr.ofDecPair p).cycles = 8 ∧
      ∃ t, exec (.ofDecPair p) s = .next t ∧ (t.getPair p).toNat = ((s.getPair p).toNat + 65535) % 65536 ∧
        OnlyPair p 1 s t ∧ KeepsMemory s t)

/-! ## Miscellaneous -/

/-- DAA as the spec's algorithm has it (44_misc.md R141, decision D15, entry 16). -/
def Obligations.DaaAlgorithm : Prop :=
  ∀ s : State, ∃ t, exec .daa s = .next t ∧ t.fZ = decide (t.a = 0) ∧ t.fN = s.fN ∧ t.fH = false ∧
    (s.fN = false → t.fC = (s.fC || decide (s.a.toNat > 0x99)) ∧
      t.a = s.a + (if s.fC = true ∨ s.a.toNat > 0x99 then 0x60 else 0x00) + (if s.fH = true ∨ s.a.toNat % 16 > 9 then 0x06 else 0x00)) ∧
    (s.fN = true → t.fC = s.fC ∧
      t.a = s.a - (if s.fC = true then 0x60 else 0x00) - (if s.fH = true then 0x06 else 0x00)) ∧
    OnlyRegsFlags [.a] 1 s t ∧ KeepsMemory s t

/-- DAA after ADD or ADC of two packed BCD bytes "so that the correct representation of Binary Coded
Decimal (BCD) is obtained" (44_misc.md R141, decision D15, entry 16): the sum modulo 100, C on decimal carry. -/
def Obligations.DaaCorrectsAddition : Prop :=
  ∀ (s : State) (x y : Nat) (op : AluOp), x < 100 → y < 100 → op = .add ∨ op = .adc → s.a = bcd x →
    let sum := x + y + (if op = .adc then s.fC.toNat else 0)
    ∃ t u, exec (.ofAluImm op (bcd y)) s = .next t ∧ exec .daa t = .next u ∧
      u.a = bcd (sum % 100) ∧ u.fC = decide (sum ≥ 100) ∧ u.fZ = decide (sum % 100 = 0)

/-- DAA after SUB or SBC of two packed BCD bytes (44_misc.md R141, decisions D12 and D15, entries 14, 16): the
difference modulo 100, C on decimal borrow. -/
def Obligations.DaaCorrectsSubtraction : Prop :=
  ∀ (s : State) (x y : Nat) (op : AluOp), x < 100 → y < 100 → op = .sub ∨ op = .sbc → s.a = bcd x →
    let d := y + (if op = .sbc then s.fC.toNat else 0)
    ∃ t u, exec (.ofAluImm op (bcd y)) s = .next t ∧ exec .daa t = .next u ∧
      u.a = bcd ((x + 200 - d) % 100) ∧ u.fC = decide (x < d) ∧ u.fZ = decide ((x + 200 - d) % 100 = 0)

/-- CPL, CCF, SCF and NOP (R142, R143, R144, R145). -/
def Obligations.CplCcfScfAndNop : Prop :=
  ∀ s : State,
    encode .cpl = [0x2F] ∧ encode .ccf = [0x3F] ∧ encode .scf = [0x37] ∧ encode .nop = [0x00] ∧
    (∀ i ∈ [Instr.cpl, .ccf, .scf, .nop], i.cycles = 4) ∧
    exec .cpl s = .next { s with a := ~~~s.a, fN := true, fH := true, pc := s.pc + 1 } ∧
    exec .ccf s = .next { s with fC := !s.fC, fN := false, fH := false, pc := s.pc + 1 } ∧
    exec .scf s = .next { s with fC := true, fN := false, fH := false, pc := s.pc + 1 } ∧
    exec .nop s = .next { s with pc := s.pc + 1 }

/-- HALT and STOP enter their modes with `pc` after them (44_misc.md R146, R147; STOP's length is decision
D20, entry 18). EI and DI schedule their change of IME, DI under `DI_DELAY` = 0 makes it at once (R148, R149,
R150, decision D17, entries 6, 25). -/
def Obligations.HaltStopEiAndDi : Prop :=
  ∀ s : State,
    exec .halt s = .next { s with pc := s.pc + 1, mode := .halted } ∧
    exec .stop s = .next { s with pc := s.pc + 2, mode := .stopped } ∧
    exec .ei s = .next { s with pc := s.pc + 1, imePending := .enable } ∧
    exec .di s = .next (match s.params.diDelay with
      | .one => { s with pc := s.pc + 1, imePending := .disable }
      | .zero => { s with pc := s.pc + 1, ime := false, imePending := .none })

/-! ## Rotates, shifts, bit opcodes -/

/-- The CB rotates, shifts and SWAP (R164 to R170, R140): the operand becomes the rotated byte, Z is set if
it is zero, N and H are reset, C is the bit that left (SWAP: reset); a register form touches no memory. -/
def Obligations.RotatesAndShifts : Prop :=
  ∀ (s : State) (op : ShiftOp) (o : Opnd8),
    let w := rotateBits op (s.rd8 o).1 s.fC
    encode (.ofShift op o) = [0xCB, BitVec.ofNat 8 (8 * op.code + o.code)] ∧
    (Instr.ofShift op o).cycles = (if o = .mhl then 16 else 8) ∧
    ∃ t, exec (.ofShift op o) s = .next t ∧
      RewritesOperand o w.1 { z := decide (w.1 = 0), n := false, h := false, c := w.2 } 2 s t

/-- RLCA, RLA, RRCA, RRA (45_rotates_shifts.md R160 to R163): A is rotated as by the CB instruction, N and H are
reset, C is the bit that left; Z follows the parameter `ROT_A_Z` (decision D13, entry 6). -/
def Obligations.RotatesOfA : Prop :=
  ∀ (s : State) (i : Instr) (op : ShiftOp), (i, op) ∈ [(.rlca, .rlc), (.rla, .rl), (.rrca, .rrc), (.rra, .rr)] →
    let w := rotateBits op s.a s.fC
    exec i s = .next { s with
      a := w.1, fN := false, fH := false, fC := w.2, pc := s.pc + 1
      fZ := (match s.params.rotAZ with
        | .source => decide (w.1 = 0)
        | .hardware => false) }

/-- BIT, SET and RES (46_bit.md R180 to R182; the place of the bit number is decision D11, entry 13): BIT sets Z to the
complement of the bit, resets N, sets H, keeps C and writes nothing; SET and RES change that one bit of
the operand and no flag. -/
def Obligations.BitOpcodes : Prop :=
  ∀ (s : State) (k : Fin 8) (o : Opnd8),
    let r := s.rd8 o
    (∃ t, exec (.ofBit k o) s = .next t ∧ KeepsMemory s t ∧
      t = { r.2 with fZ := decide (r.1.toNat / 2 ^ k.val % 2 = 0), fN := false, fH := true, pc := s.pc + 2 }) ∧
    (∃ t w, exec (.ofSet k o) s = .next t ∧ RewritesOperand o w s.flags 2 s t ∧
      ∀ j, j < 8 → w.getLsbD j = (decide (j = k.val) || r.1.getLsbD j)) ∧
    (∃ t w, exec (.ofRes k o) s = .next t ∧ RewritesOperand o w s.flags 2 s t ∧
      ∀ j, j < 8 → w.getLsbD j = (!decide (j = k.val) && r.1.getLsbD j))

/-! ## Jumps, calls, returns -/

/-- JP nn and JP (HL), which reads no memory (R190, R192). -/
def Obligations.UnconditionalJumps : Prop :=
  ∀ (s : State) (nn : Word),
    encode (.jp_nn nn) = [0xC3, loByte nn, hiByte nn] ∧ exec (.jp_nn nn) s = .next { s with pc := nn } ∧
    (Instr.jp_nn nn).cycles = 12 ∧ Instr.jp_hl.cycles = 4 ∧ encode .jp_hl = [0xE9] ∧ exec .jp_hl s = .next { s with pc := s.hl }

/-- JP cc,nn, JR n and JR cc,n (47_jumps.md R191, R193 to R195): the base of JR is the address after it (decision
D16, entry 12), the sum wraps, the signed byte is two's complement; nothing but `pc` changes. -/
def Obligations.ConditionalAndRelativeJumps : Prop :=
  ∀ (s : State) (nn : Word) (e8 : Byte),
    let target := BitVec.ofNat 16 (s.pc.toNat + 2 + (if e8.toNat < 128 then e8.toNat else e8.toNat + 0xFF00))
    exec (.jr_e8 e8) s = .next { s with pc := target } ∧
    ∀ (cc : Cond) (holds : Bool), (cc, holds) ∈ [(.nz, !s.fZ), (.z, s.fZ), (.nc, !s.fC), (.c, s.fC)] →
      exec (.ofJp cc nn) s = .next { s with pc := if holds then nn else s.pc + 3 } ∧
      exec (.ofJr cc e8) s = .next { s with pc := if holds then target else s.pc + 2 }

/-- CALL, CALL cc and RST (48_calls_restarts.md R200 to R202, decisions D4 and D16, entries 11, 12): the address
after the instruction is pushed and control goes to the target; a condition that is false pushes
nothing. -/
def Obligations.CallsAndRestarts : Prop :=
  ∀ (s : State) (nn : Word),
    (∃ t, exec (.call_nn nn) s = .next t ∧ PushesAndJumps (s.pc + 3) nn s t) ∧
    (∀ k : Fin 8, ∃ t, exec (.ofRst k) s = .next t ∧ PushesAndJumps (s.pc + 1) (BitVec.ofNat 16 (8 * k.val)) s t) ∧
    (∀ (cc : Cond) (holds : Bool), (cc, holds) ∈ [(.nz, !s.fZ), (.z, s.fZ), (.nc, !s.fC), (.c, s.fC)] →
      (holds = true → ∃ t, exec (.ofCall cc nn) s = .next t ∧ PushesAndJumps (s.pc + 3) nn s t) ∧
      (holds = false → exec (.ofCall cc nn) s = .next { s with pc := s.pc + 3 }))

/-- RET, RET cc and RETI (49_returns.md R210 to R212, decisions D4 and D17, entries 11, 25): `pc` is popped; RETI sets
IME at once and cancels a scheduled change; a condition that is false reads nothing from the stack. -/
def Obligations.Returns : Prop :=
  ∀ s : State,
    (∃ t, exec .ret s = .next t ∧ PopsPc s t) ∧
    (∃ t, exec .reti s = .next { t with ime := true, imePending := .none } ∧ PopsPc s t) ∧
    (∀ (cc : Cond) (holds : Bool), (cc, holds) ∈ [(.nz, !s.fZ), (.z, s.fZ), (.nc, !s.fC), (.c, s.fC)] →
      (holds = true → ∃ t, exec (.ofRet cc) s = .next t ∧ PopsPc s t) ∧
      (holds = false → exec (.ofRet cc) s = .next { s with pc := s.pc + 1 }))

/-- A RET right after a CALL resumes after the CALL with SP as it was (48_calls_restarts.md, 49_returns.md;
entries 11, 12). -/
def Obligations.CallThenRetResumes : Prop :=
  ∀ (s : State) (nn : Word), s.mem.wf = true → s.kindAt (s.sp - 1) = .ram → s.kindAt (s.sp - 2) = .ram →
    ∃ t u, exec (.call_nn nn) s = .next t ∧ exec .ret t = .next u ∧ u = { s with mem := t.mem, pc := s.pc + 3 }
end

