-- ==== Sys2Proof/Laws/Memory.lean ====
section
/-! SUPPORT. The laws of the sparse memory: a write is read back, it leaves every other address alone,
it keeps the canonical form, and memories in canonical form that read the same are equal. -/

namespace Sys2Proof.Machine.Memory

/-- A write leaves every other address alone, in any memory. -/
theorem read_write_other (m : Memory) (x y : Nat) (v : Byte) (h : y ≠ x) : (m.write x v).read y = m.read y := by
  induction m with
  | nil => unfold write; split <;> simp [read, h]
  | cons p rest ih =>
    obtain ⟨z, w⟩ := p
    unfold write
    split
    · split <;> simp [read, h]
    · split
      · rename_i hz; subst hz; split <;> simp [read, h]
      · simp only [read]; split <;> simp [ih]

/-- Below the first listed address nothing is listed. -/
theorem read_below (m : Memory) (lo x : Nat) (hm : canonicalFrom lo m = true) (hx : x < lo) : m.read x = unlisted := by
  induction m generalizing lo with
  | nil => rfl
  | cons p rest ih =>
    obtain ⟨z, w⟩ := p
    simp only [canonicalFrom, Bool.and_eq_true, decide_eq_true_eq] at hm
    obtain ⟨⟨hlo, _⟩, hr⟩ := hm
    simp only [read]
    rw [if_neg (by omega)]
    exact ih _ hr (by omega)

theorem read_write_same_from (m : Memory) (lo x : Nat) (v : Byte) (hm : canonicalFrom lo m = true) :
    (m.write x v).read x = v := by
  induction m generalizing lo with
  | nil => unfold write; split <;> simp_all [read]
  | cons p rest ih =>
    obtain ⟨z, w⟩ := p
    have hm' := hm
    simp only [canonicalFrom, Bool.and_eq_true, decide_eq_true_eq] at hm
    obtain ⟨⟨hlo, _⟩, hr⟩ := hm
    unfold write
    split
    · split
      · rename_i hz hv
        rw [hv]
        simp only [read]; rw [if_neg (by omega)]
        exact read_below rest _ x hr (by omega)
      · simp [read]
    · split
      · rename_i hz; subst hz
        split
        · rename_i hv; rw [hv]; exact read_below rest _ x hr (by omega)
        · simp [read]
      · rename_i h1 h2
        simp only [read]; rw [if_neg h2]; exact ih _ hr

/-- The form of the CPU's memory is the canonical form inside the address space. -/
theorem wf_iff (m : Memory) : m.wf = true ↔ m.canonical = true ∧ m.inSpace = true := by
  simp [wf]

/-- In a list of canonical form a write is read back. -/
theorem read_write_same_canonical (m : Memory) (x : Nat) (v : Byte) (hm : m.canonical = true) : (m.write x v).read x = v :=
  read_write_same_from m 0 x v hm

/-- In a memory of canonical form a write is read back. -/
theorem read_write_same (m : Memory) (x : Nat) (v : Byte) (hm : m.wf = true) : (m.write x v).read x = v :=
  read_write_same_canonical m x v ((wf_iff m).1 hm).1

theorem canonicalFrom_mono (m : Memory) (lo lo' : Nat) (h : lo' ≤ lo) (hm : canonicalFrom lo m = true) : canonicalFrom lo' m = true := by
  cases m with
  | nil => rfl
  | cons p rest =>
    simp only [canonicalFrom, Bool.and_eq_true, decide_eq_true_eq] at hm ⊢
    exact ⟨⟨by omega, hm.1.2⟩, hm.2⟩

theorem canonicalFrom_write (m : Memory) (lo x : Nat) (v : Byte) (hlo : lo ≤ x) (hm : canonicalFrom lo m = true) :
    canonicalFrom lo (m.write x v) = true := by
  induction m generalizing lo with
  | nil =>
    unfold write; split
    · rfl
    · rename_i hv; simp [canonicalFrom, hlo, hv]
  | cons p rest ih =>
    obtain ⟨z, w⟩ := p
    have hm' := hm
    simp only [canonicalFrom, Bool.and_eq_true, decide_eq_true_eq] at hm
    obtain ⟨⟨hz, hw⟩, hr⟩ := hm
    unfold write
    split
    · rename_i hlt
      split
      · exact hm'
      · rename_i hv
        simp only [canonicalFrom, Bool.and_eq_true, decide_eq_true_eq]
        exact ⟨⟨hlo, hv⟩, ⟨⟨by omega, hw⟩, hr⟩⟩
    · split
      · rename_i heq; subst heq
        split
        · exact canonicalFrom_mono rest _ _ (by omega) hr
        · rename_i hv
          simp only [canonicalFrom, Bool.and_eq_true, decide_eq_true_eq]
          exact ⟨⟨hlo, hv⟩, hr⟩
      · rename_i h1 h2
        simp only [canonicalFrom, Bool.and_eq_true, decide_eq_true_eq]
        exact ⟨⟨hz, hw⟩, ih _ (by omega) hr⟩

/-- A write keeps the canonical form. -/
theorem canonical_write (m : Memory) (x : Nat) (v : Byte) (hm : m.canonical = true) : (m.write x v).canonical = true :=
  canonicalFrom_write m 0 x v (Nat.zero_le _) hm

/-- A write inside the 65536 addresses leaves every listed address inside them. -/
theorem inSpace_write (m : Memory) (x : Nat) (v : Byte) (hx : x < 65536) (hm : m.inSpace = true) :
    (m.write x v).inSpace = true := by
  induction m with
  | nil => unfold write; split <;> simp [inSpace, hx]
  | cons p rest ih =>
    simp only [inSpace, List.all_cons, Bool.and_eq_true, decide_eq_true_eq] at hm ih ⊢
    unfold write
    split
    · split <;> simp only [List.all_cons, Bool.and_eq_true, decide_eq_true_eq]
      · exact hm
      · exact ⟨hx, hm⟩
    · split
      · split
        · exact hm.2
        · simp only [List.all_cons, Bool.and_eq_true, decide_eq_true_eq]; exact ⟨hx, hm.2⟩
      · simp only [List.all_cons, Bool.and_eq_true, decide_eq_true_eq]; exact ⟨hm.1, ih hm.2⟩

/-- A write inside the 65536 addresses keeps the form of the CPU's memory. -/
theorem wf_write (m : Memory) (x : Nat) (v : Byte) (hx : x < 65536) (hm : m.wf = true) : (m.write x v).wf = true :=
  (wf_iff _).2 ⟨canonical_write m x v ((wf_iff m).1 hm).1, inSpace_write m x v hx ((wf_iff m).1 hm).2⟩

/-- Memory at reset has the canonical form. -/
theorem wf_reset : State.reset.mem.wf = true := rfl

/-- Two memories of canonical form that read the same everywhere are the same list. -/
theorem ext_from (m n : Memory) (lo : Nat) (hm : canonicalFrom lo m = true) (hn : canonicalFrom lo n = true)
    (h : ∀ x, m.read x = n.read x) : m = n := by
  induction m generalizing n lo with
  | nil =>
    cases n with
    | nil => rfl
    | cons q rest =>
      obtain ⟨z, w⟩ := q
      simp only [canonicalFrom, Bool.and_eq_true, decide_eq_true_eq] at hn
      have hz := h z
      simp [read] at hz
      exact absurd hz.symm hn.1.2
  | cons p rest ih =>
    obtain ⟨y, v⟩ := p
    have hm' := hm
    simp only [canonicalFrom, Bool.and_eq_true, decide_eq_true_eq] at hm
    cases n with
    | nil =>
      have hy := h y
      simp [read] at hy
      exact absurd hy hm.1.2
    | cons q rest' =>
      obtain ⟨z, w⟩ := q
      have hn' := hn
      simp only [canonicalFrom, Bool.and_eq_true, decide_eq_true_eq] at hn
      have hyz : y = z := by
        have first : ∀ (k : Nat) (u : Byte) (t : Memory), read ((k, u) :: t) k = u := by intro k u t; simp [read]
        have wm : canonicalFrom y ((y, v) :: rest) = true := by
          simp only [canonicalFrom, Bool.and_eq_true, decide_eq_true_eq]
          exact ⟨⟨Nat.le_refl _, hm.1.2⟩, hm.2⟩
        have wn : canonicalFrom z ((z, w) :: rest') = true := by
          simp only [canonicalFrom, Bool.and_eq_true, decide_eq_true_eq]
          exact ⟨⟨Nat.le_refl _, hn.1.2⟩, hn.2⟩
        rcases Nat.lt_trichotomy y z with hlt | heq | hgt
        · exact absurd (((first y v rest).symm.trans (h y)).trans (read_below _ z y wn hlt)) hm.1.2
        · exact heq
        · exact absurd (((first z w rest').symm.trans (h z).symm).trans (read_below _ y z wm hgt)) hn.1.2
      subst hyz
      have hv : v = w := by simpa [read] using h y
      subst hv
      congr 1
      refine ih rest' (y + 1) hm.2 hn.2 (fun x => ?_)
      by_cases hx : x = y
      · subst hx
        rw [read_below rest _ x hm.2 (by omega), read_below rest' _ x hn.2 (by omega)]
      · simpa [read, hx] using h x

/-- Equal memories are equal data. -/
theorem ext (m n : Memory) (hm : m.wf = true) (hn : n.wf = true) (h : ∀ x, m.read x = n.read x) : m = n :=
  ext_from m n 0 ((wf_iff m).1 hm).1 ((wf_iff n).1 hn).1 h

end Sys2Proof.Machine.Memory
end

