-- ==== Sys2Proof/Laws/GivenMap.lean ====
section
/-! SUPPORT. What a platform given as data can compute: the cells keep their canonical form, and every pair
of functions `read`, `write` over a `PlatformState` of `n` bytes is that of some given map (20_memory.md R37). -/

namespace Sys2Proof.Machine

/-- Writing cells keeps their canonical form. -/
theorem writeCells_canonical (view : PlatformView) (ws : List Config.CellWrite) (h : view.cells.canonical = true) :
    (writeCells view ws).canonical = true := by
  have fold : ∀ (l : List Config.CellWrite) (m : Memory), m.canonical = true →
      (l.foldl (fun cells w => cells.write (evalNum view w.index) (BitVec.ofNat 8 (evalNum view w.value))) m).canonical = true := by
    intro l
    induction l with
    | nil => exact fun _ hm => hm
    | cons w rest ih => exact fun m hm => ih _ (Memory.canonical_write _ _ _ hm)
  exact fold ws view.cells h

/-! ## Every map over a platform state of bytes -/

/-- The cells 0 to `n - 1` hold `p`, the least significant byte first. -/
def CellsHold (n p : Nat) (cells : Memory) : Prop :=
  cells.canonical = true ∧ ∀ i, i < n → cells.read i = BitVec.ofNat 8 (p / 256 ^ i)

/-- The number the cells 0 to `n - 1` hold. -/
def cellsNum (n : Nat) : Config.Num :=
  match n with
  | 0 => .lit 0
  | k + 1 => .op .add (cellsNum k) (.op .mul (.lit (256 ^ k)) (.cell (.lit k)))

/-- The number `F` gives at `key`, for a key below `bound`. -/
def tableNum (key : Config.Num) (F : Nat → Nat) (bound : Nat) : Config.Num :=
  match bound with
  | 0 => .lit 0
  | k + 1 => .cond (.op .eq key (.lit k)) (.lit (F k)) (tableNum key F k)

/-- State, address and byte of an access as one number. -/
def accessKey (n : Nat) : Config.Num :=
  .op .add (.op .mul (.op .add (.op .mul (cellsNum n) (.lit 65536)) .addr) (.lit 256)) .value

/-- Write the number `F` gives to the cells 0 to `n - 1`. -/
def storeNum (F : Config.Num) (n : Nat) : List Config.CellWrite :=
  (List.range n).map fun i => { index := .lit i, value := .op .div F (.lit (256 ^ i)) }

theorem evalNum_cellsNum (view : PlatformView) (n p : Nat) (h : CellsHold n p view.cells) :
    evalNum view (cellsNum n) = p % 256 ^ n := by
  induction n with
  | zero => simp [cellsNum, evalNum, Nat.mod_one]
  | succ k ih =>
    have hk : CellsHold k p view.cells := ⟨h.1, fun i hi => h.2 i (by omega)⟩
    simp only [cellsNum, evalNum, applyNumOp, ih hk, h.2 k (by omega), BitVec.toNat_ofNat]
    exact (Nat.mod_pow_succ (b := 256)).symm

theorem evalNum_tableNum (view : PlatformView) (key : Config.Num) (F : Nat → Nat) (bound : Nat)
    (h : evalNum view key < bound) : evalNum view (tableNum key F bound) = F (evalNum view key) := by
  induction bound with
  | zero => omega
  | succ k ih =>
    simp only [tableNum, evalNum, applyNumOp]
    by_cases hk : evalNum view key = k
    · simp [hk]
    · simp [hk, ih (by omega)]

/-- The key of an access, and that state, address and byte can be read off it. -/
theorem evalNum_accessKey (view : PlatformView) (n p : Nat) (hp : p < 256 ^ n) (h : CellsHold n p view.cells) :
    evalNum view (accessKey n) = (p * 65536 + view.addr) * 256 + view.value := by
  simp [accessKey, evalNum, applyNumOp, evalNum_cellsNum view n p h, Nat.mod_eq_of_lt hp]

/-- After `storeNum` the cells hold the number stored. -/
theorem writeCells_storeNum (view : PlatformView) (F : Config.Num) (n : Nat) (hc : view.cells.canonical = true) :
    CellsHold n (evalNum view F) (writeCells view (storeNum F n)) := by
  refine ⟨writeCells_canonical _ _ hc, ?_⟩
  induction n with
  | zero => intro i hi; omega
  | succ k ih =>
    intro i hi
    have last : writeCells view (storeNum F (k + 1)) =
        (writeCells view (storeNum F k)).write k (BitVec.ofNat 8 (evalNum view F / 256 ^ k)) := by
      simp [writeCells, storeNum, List.range_succ, evalNum, applyNumOp]
    rw [last]
    by_cases hik : i = k
    · subst hik; exact Memory.read_write_same_canonical _ _ _ (writeCells_canonical _ _ hc)
    · rw [Memory.read_write_other _ _ _ _ hik]; exact ih i (by omega)

theorem accessKey_lt {p x w N : Nat} (hp : p < N) (hx : x < 65536) (hw : w < 256) :
    (p * 65536 + x) * 256 + w < N * 65536 * 256 := by omega

theorem accessKey_split {p x w : Nat} (hx : x < 65536) (hw : w < 256) :
    ((p * 65536 + x) * 256 + w) / 256 / 65536 = p ∧ ((p * 65536 + x) * 256 + w) / 256 % 65536 = x ∧
    ((p * 65536 + x) * 256 + w) % 256 = w := by
  have e : ((p * 65536 + x) * 256 + w) / 256 = p * 65536 + x := by omega
  rw [e]
  omega

/-- Every `MemMap` of R37 whose `PlatformState` is `n` bytes, that is any pair of functions over the numbers below
`256 ^ n`, is given by some data: it answers the byte `read` answers and leaves the cells as `read` and
`write` leave the platform. -/
theorem every_memMap_is_given (n : Nat) (read : Fin (256 ^ n) → Word → Byte × Fin (256 ^ n))
    (write : Fin (256 ^ n) → Word → Byte → Fin (256 ^ n)) :
    ∃ m : Config.GivenMap, ∀ (s : State) (p : Fin (256 ^ n)) (x : Word) (v : Byte), CellsHold n p s.platform.cells →
      (s.readGiven m x).1 = (read p x).1 ∧ CellsHold n (read p x).2 (s.readGiven m x).2.platform.cells ∧
      CellsHold n (write p x v) (s.writeGiven m x v).platform.cells := by
  have pos : 0 < 256 ^ n := Nat.pow_pos (by decide)
  let at' : Nat → Fin (256 ^ n) := fun k => ⟨k / 256 / 65536 % 256 ^ n, Nat.mod_lt _ pos⟩
  let adr : Nat → Word := fun k => BitVec.ofNat 16 (k / 256)
  let table : (Nat → Nat) → Config.Num := fun F => tableNum (accessKey n) F (256 ^ n * 65536 * 256)
  let answer := table fun k => (read (at' k) (adr k)).1.toNat
  let after := table fun k => (read (at' k) (adr k)).2.val
  let stored := table fun k => (write (at' k) (adr k) (BitVec.ofNat 8 k)).val
  refine ⟨{ answer := answer, onRead := storeNum after n, onWrite := storeNum stored n }, ?_⟩
  intro s p x v h
  have eval : ∀ (F : Nat → Nat) (w : Byte),
      evalNum (s.viewFor x w) (table F) = F ((p.val * 65536 + x.toNat) * 256 + w.toNat) := by
    intro F w
    have key : evalNum (s.viewFor x w) (accessKey n) = (p.val * 65536 + x.toNat) * 256 + w.toNat :=
      evalNum_accessKey (s.viewFor x w) n p.val p.isLt h
    rw [evalNum_tableNum _ _ _ _ (by rw [key]; exact accessKey_lt p.isLt x.isLt w.isLt), key]
  have split : ∀ w : Byte, at' ((p.val * 65536 + x.toNat) * 256 + w.toNat) = p ∧
      adr ((p.val * 65536 + x.toNat) * 256 + w.toNat) = x ∧
      BitVec.ofNat 8 ((p.val * 65536 + x.toNat) * 256 + w.toNat) = w := by
    intro w
    have parts := accessKey_split (p := p.val) x.isLt w.isLt
    refine ⟨Fin.ext ?_, BitVec.eq_of_toNat_eq ?_, BitVec.eq_of_toNat_eq ?_⟩
    · exact (congrArg (· % 256 ^ n) parts.1).trans (Nat.mod_eq_of_lt p.isLt)
    · rw [BitVec.toNat_ofNat]; exact parts.2.1
    · rw [BitVec.toNat_ofNat]; exact parts.2.2
  have hr : (read (at' ((p.val * 65536 + x.toNat) * 256 + (0 : Byte).toNat)) (adr ((p.val * 65536 + x.toNat) * 256 + (0 : Byte).toNat))) =
      read p x := by rw [(split 0).1, (split 0).2.1]
  refine ⟨?_, ?_, ?_⟩
  · show BitVec.ofNat 8 (evalNum (s.viewFor x 0) answer) = _
    rw [eval, hr, BitVec.ofNat_toNat, BitVec.setWidth_eq]
  · have := writeCells_storeNum (s.viewFor x 0) after n h.1
    rw [eval, hr] at this
    exact this
  · have := writeCells_storeNum (s.viewFor x v) stored n h.1
    rw [eval, (split v).1, (split v).2.1, (split v).2.2] at this
    exact this

end Sys2Proof.Machine
end

