-- ==== Sys2Proof/Laws/State.lean ====
section
/-! SUPPORT. One lemma per field of State per named update, true by `rfl` and tagged `simp`, so that no
later proof unfolds a record update; and the views (`peek`, `kindAt`, pairs, flags) of each update. -/

namespace Sys2Proof.Machine.State

variable (s : State)

@[simp] theorem setFlags_a (f : Flags) : (s.setFlags f).a = s.a := rfl
@[simp] theorem setFlags_b (f : Flags) : (s.setFlags f).b = s.b := rfl
@[simp] theorem setFlags_c (f : Flags) : (s.setFlags f).c = s.c := rfl
@[simp] theorem setFlags_d (f : Flags) : (s.setFlags f).d = s.d := rfl
@[simp] theorem setFlags_e (f : Flags) : (s.setFlags f).e = s.e := rfl
@[simp] theorem setFlags_h (f : Flags) : (s.setFlags f).h = s.h := rfl
@[simp] theorem setFlags_l (f : Flags) : (s.setFlags f).l = s.l := rfl
@[simp] theorem setFlags_fZ (f : Flags) : (s.setFlags f).fZ = f.z := rfl
@[simp] theorem setFlags_fN (f : Flags) : (s.setFlags f).fN = f.n := rfl
@[simp] theorem setFlags_fH (f : Flags) : (s.setFlags f).fH = f.h := rfl
@[simp] theorem setFlags_fC (f : Flags) : (s.setFlags f).fC = f.c := rfl
@[simp] theorem setFlags_sp (f : Flags) : (s.setFlags f).sp = s.sp := rfl
@[simp] theorem setFlags_pc (f : Flags) : (s.setFlags f).pc = s.pc := rfl
@[simp] theorem setFlags_ime (f : Flags) : (s.setFlags f).ime = s.ime := rfl
@[simp] theorem setFlags_imePending (f : Flags) : (s.setFlags f).imePending = s.imePending := rfl
@[simp] theorem setFlags_mode (f : Flags) : (s.setFlags f).mode = s.mode := rfl
@[simp] theorem setFlags_mem (f : Flags) : (s.setFlags f).mem = s.mem := rfl
@[simp] theorem setFlags_platform (f : Flags) : (s.setFlags f).platform = s.platform := rfl
@[simp] theorem setFlags_params (f : Flags) : (s.setFlags f).params = s.params := rfl
@[simp] theorem setFlags_peek (f : Flags) (y : Word) : (s.setFlags f).peek y = s.peek y := rfl
@[simp] theorem setFlags_kindAt (f : Flags) (y : Word) : (s.setFlags f).kindAt y = s.kindAt y := rfl
@[simp] theorem setFlags_bc (f : Flags) : (s.setFlags f).bc = s.bc := rfl
@[simp] theorem setFlags_de (f : Flags) : (s.setFlags f).de = s.de := rfl
@[simp] theorem setFlags_hl (f : Flags) : (s.setFlags f).hl = s.hl := rfl

@[simp] theorem setA_a (v : Byte) : (s.setA v).a = v := rfl
@[simp] theorem setA_b (v : Byte) : (s.setA v).b = s.b := rfl
@[simp] theorem setA_c (v : Byte) : (s.setA v).c = s.c := rfl
@[simp] theorem setA_d (v : Byte) : (s.setA v).d = s.d := rfl
@[simp] theorem setA_e (v : Byte) : (s.setA v).e = s.e := rfl
@[simp] theorem setA_h (v : Byte) : (s.setA v).h = s.h := rfl
@[simp] theorem setA_l (v : Byte) : (s.setA v).l = s.l := rfl
@[simp] theorem setA_fZ (v : Byte) : (s.setA v).fZ = s.fZ := rfl
@[simp] theorem setA_fN (v : Byte) : (s.setA v).fN = s.fN := rfl
@[simp] theorem setA_fH (v : Byte) : (s.setA v).fH = s.fH := rfl
@[simp] theorem setA_fC (v : Byte) : (s.setA v).fC = s.fC := rfl
@[simp] theorem setA_sp (v : Byte) : (s.setA v).sp = s.sp := rfl
@[simp] theorem setA_pc (v : Byte) : (s.setA v).pc = s.pc := rfl
@[simp] theorem setA_ime (v : Byte) : (s.setA v).ime = s.ime := rfl
@[simp] theorem setA_imePending (v : Byte) : (s.setA v).imePending = s.imePending := rfl
@[simp] theorem setA_mode (v : Byte) : (s.setA v).mode = s.mode := rfl
@[simp] theorem setA_mem (v : Byte) : (s.setA v).mem = s.mem := rfl
@[simp] theorem setA_platform (v : Byte) : (s.setA v).platform = s.platform := rfl
@[simp] theorem setA_params (v : Byte) : (s.setA v).params = s.params := rfl
@[simp] theorem setA_peek (v : Byte) (y : Word) : (s.setA v).peek y = s.peek y := rfl
@[simp] theorem setA_kindAt (v : Byte) (y : Word) : (s.setA v).kindAt y = s.kindAt y := rfl
@[simp] theorem setA_bc (v : Byte) : (s.setA v).bc = s.bc := rfl
@[simp] theorem setA_de (v : Byte) : (s.setA v).de = s.de := rfl
@[simp] theorem setA_hl (v : Byte) : (s.setA v).hl = s.hl := rfl
@[simp] theorem setA_flags (v : Byte) : (s.setA v).flags = s.flags := rfl

@[simp] theorem setBC_a (v : Word) : (s.setBC v).a = s.a := rfl
@[simp] theorem setBC_b (v : Word) : (s.setBC v).b = hiByte v := rfl
@[simp] theorem setBC_c (v : Word) : (s.setBC v).c = loByte v := rfl
@[simp] theorem setBC_d (v : Word) : (s.setBC v).d = s.d := rfl
@[simp] theorem setBC_e (v : Word) : (s.setBC v).e = s.e := rfl
@[simp] theorem setBC_h (v : Word) : (s.setBC v).h = s.h := rfl
@[simp] theorem setBC_l (v : Word) : (s.setBC v).l = s.l := rfl
@[simp] theorem setBC_fZ (v : Word) : (s.setBC v).fZ = s.fZ := rfl
@[simp] theorem setBC_fN (v : Word) : (s.setBC v).fN = s.fN := rfl
@[simp] theorem setBC_fH (v : Word) : (s.setBC v).fH = s.fH := rfl
@[simp] theorem setBC_fC (v : Word) : (s.setBC v).fC = s.fC := rfl
@[simp] theorem setBC_sp (v : Word) : (s.setBC v).sp = s.sp := rfl
@[simp] theorem setBC_pc (v : Word) : (s.setBC v).pc = s.pc := rfl
@[simp] theorem setBC_ime (v : Word) : (s.setBC v).ime = s.ime := rfl
@[simp] theorem setBC_imePending (v : Word) : (s.setBC v).imePending = s.imePending := rfl
@[simp] theorem setBC_mode (v : Word) : (s.setBC v).mode = s.mode := rfl
@[simp] theorem setBC_mem (v : Word) : (s.setBC v).mem = s.mem := rfl
@[simp] theorem setBC_platform (v : Word) : (s.setBC v).platform = s.platform := rfl
@[simp] theorem setBC_params (v : Word) : (s.setBC v).params = s.params := rfl
@[simp] theorem setBC_peek (v : Word) (y : Word) : (s.setBC v).peek y = s.peek y := rfl
@[simp] theorem setBC_kindAt (v : Word) (y : Word) : (s.setBC v).kindAt y = s.kindAt y := rfl
@[simp] theorem setBC_de (v : Word) : (s.setBC v).de = s.de := rfl
@[simp] theorem setBC_hl (v : Word) : (s.setBC v).hl = s.hl := rfl
@[simp] theorem setBC_flags (v : Word) : (s.setBC v).flags = s.flags := rfl

@[simp] theorem setDE_a (v : Word) : (s.setDE v).a = s.a := rfl
@[simp] theorem setDE_b (v : Word) : (s.setDE v).b = s.b := rfl
@[simp] theorem setDE_c (v : Word) : (s.setDE v).c = s.c := rfl
@[simp] theorem setDE_d (v : Word) : (s.setDE v).d = hiByte v := rfl
@[simp] theorem setDE_e (v : Word) : (s.setDE v).e = loByte v := rfl
@[simp] theorem setDE_h (v : Word) : (s.setDE v).h = s.h := rfl
@[simp] theorem setDE_l (v : Word) : (s.setDE v).l = s.l := rfl
@[simp] theorem setDE_fZ (v : Word) : (s.setDE v).fZ = s.fZ := rfl
@[simp] theorem setDE_fN (v : Word) : (s.setDE v).fN = s.fN := rfl
@[simp] theorem setDE_fH (v : Word) : (s.setDE v).fH = s.fH := rfl
@[simp] theorem setDE_fC (v : Word) : (s.setDE v).fC = s.fC := rfl
@[simp] theorem setDE_sp (v : Word) : (s.setDE v).sp = s.sp := rfl
@[simp] theorem setDE_pc (v : Word) : (s.setDE v).pc = s.pc := rfl
@[simp] theorem setDE_ime (v : Word) : (s.setDE v).ime = s.ime := rfl
@[simp] theorem setDE_imePending (v : Word) : (s.setDE v).imePending = s.imePending := rfl
@[simp] theorem setDE_mode (v : Word) : (s.setDE v).mode = s.mode := rfl
@[simp] theorem setDE_mem (v : Word) : (s.setDE v).mem = s.mem := rfl
@[simp] theorem setDE_platform (v : Word) : (s.setDE v).platform = s.platform := rfl
@[simp] theorem setDE_params (v : Word) : (s.setDE v).params = s.params := rfl
@[simp] theorem setDE_peek (v : Word) (y : Word) : (s.setDE v).peek y = s.peek y := rfl
@[simp] theorem setDE_kindAt (v : Word) (y : Word) : (s.setDE v).kindAt y = s.kindAt y := rfl
@[simp] theorem setDE_bc (v : Word) : (s.setDE v).bc = s.bc := rfl
@[simp] theorem setDE_hl (v : Word) : (s.setDE v).hl = s.hl := rfl
@[simp] theorem setDE_flags (v : Word) : (s.setDE v).flags = s.flags := rfl

@[simp] theorem setHL_a (v : Word) : (s.setHL v).a = s.a := rfl
@[simp] theorem setHL_b (v : Word) : (s.setHL v).b = s.b := rfl
@[simp] theorem setHL_c (v : Word) : (s.setHL v).c = s.c := rfl
@[simp] theorem setHL_d (v : Word) : (s.setHL v).d = s.d := rfl
@[simp] theorem setHL_e (v : Word) : (s.setHL v).e = s.e := rfl
@[simp] theorem setHL_h (v : Word) : (s.setHL v).h = hiByte v := rfl
@[simp] theorem setHL_l (v : Word) : (s.setHL v).l = loByte v := rfl
@[simp] theorem setHL_fZ (v : Word) : (s.setHL v).fZ = s.fZ := rfl
@[simp] theorem setHL_fN (v : Word) : (s.setHL v).fN = s.fN := rfl
@[simp] theorem setHL_fH (v : Word) : (s.setHL v).fH = s.fH := rfl
@[simp] theorem setHL_fC (v : Word) : (s.setHL v).fC = s.fC := rfl
@[simp] theorem setHL_sp (v : Word) : (s.setHL v).sp = s.sp := rfl
@[simp] theorem setHL_pc (v : Word) : (s.setHL v).pc = s.pc := rfl
@[simp] theorem setHL_ime (v : Word) : (s.setHL v).ime = s.ime := rfl
@[simp] theorem setHL_imePending (v : Word) : (s.setHL v).imePending = s.imePending := rfl
@[simp] theorem setHL_mode (v : Word) : (s.setHL v).mode = s.mode := rfl
@[simp] theorem setHL_mem (v : Word) : (s.setHL v).mem = s.mem := rfl
@[simp] theorem setHL_platform (v : Word) : (s.setHL v).platform = s.platform := rfl
@[simp] theorem setHL_params (v : Word) : (s.setHL v).params = s.params := rfl
@[simp] theorem setHL_peek (v : Word) (y : Word) : (s.setHL v).peek y = s.peek y := rfl
@[simp] theorem setHL_kindAt (v : Word) (y : Word) : (s.setHL v).kindAt y = s.kindAt y := rfl
@[simp] theorem setHL_bc (v : Word) : (s.setHL v).bc = s.bc := rfl
@[simp] theorem setHL_de (v : Word) : (s.setHL v).de = s.de := rfl
@[simp] theorem setHL_flags (v : Word) : (s.setHL v).flags = s.flags := rfl

@[simp] theorem setAF_a (v : Word) : (s.setAF v).a = hiByte v := rfl
@[simp] theorem setAF_b (v : Word) : (s.setAF v).b = s.b := rfl
@[simp] theorem setAF_c (v : Word) : (s.setAF v).c = s.c := rfl
@[simp] theorem setAF_d (v : Word) : (s.setAF v).d = s.d := rfl
@[simp] theorem setAF_e (v : Word) : (s.setAF v).e = s.e := rfl
@[simp] theorem setAF_h (v : Word) : (s.setAF v).h = s.h := rfl
@[simp] theorem setAF_l (v : Word) : (s.setAF v).l = s.l := rfl
@[simp] theorem setAF_fZ (v : Word) : (s.setAF v).fZ = (loByte v).getLsbD 7 := rfl
@[simp] theorem setAF_fN (v : Word) : (s.setAF v).fN = (loByte v).getLsbD 6 := rfl
@[simp] theorem setAF_fH (v : Word) : (s.setAF v).fH = (loByte v).getLsbD 5 := rfl
@[simp] theorem setAF_fC (v : Word) : (s.setAF v).fC = (loByte v).getLsbD 4 := rfl
@[simp] theorem setAF_sp (v : Word) : (s.setAF v).sp = s.sp := rfl
@[simp] theorem setAF_pc (v : Word) : (s.setAF v).pc = s.pc := rfl
@[simp] theorem setAF_ime (v : Word) : (s.setAF v).ime = s.ime := rfl
@[simp] theorem setAF_imePending (v : Word) : (s.setAF v).imePending = s.imePending := rfl
@[simp] theorem setAF_mode (v : Word) : (s.setAF v).mode = s.mode := rfl
@[simp] theorem setAF_mem (v : Word) : (s.setAF v).mem = s.mem := rfl
@[simp] theorem setAF_platform (v : Word) : (s.setAF v).platform = s.platform := rfl
@[simp] theorem setAF_params (v : Word) : (s.setAF v).params = s.params := rfl
@[simp] theorem setAF_peek (v : Word) (y : Word) : (s.setAF v).peek y = s.peek y := rfl
@[simp] theorem setAF_kindAt (v : Word) (y : Word) : (s.setAF v).kindAt y = s.kindAt y := rfl
@[simp] theorem setAF_bc (v : Word) : (s.setAF v).bc = s.bc := rfl
@[simp] theorem setAF_de (v : Word) : (s.setAF v).de = s.de := rfl
@[simp] theorem setAF_hl (v : Word) : (s.setAF v).hl = s.hl := rfl

@[simp] theorem setSP_a (v : Word) : (s.setSP v).a = s.a := rfl
@[simp] theorem setSP_b (v : Word) : (s.setSP v).b = s.b := rfl
@[simp] theorem setSP_c (v : Word) : (s.setSP v).c = s.c := rfl
@[simp] theorem setSP_d (v : Word) : (s.setSP v).d = s.d := rfl
@[simp] theorem setSP_e (v : Word) : (s.setSP v).e = s.e := rfl
@[simp] theorem setSP_h (v : Word) : (s.setSP v).h = s.h := rfl
@[simp] theorem setSP_l (v : Word) : (s.setSP v).l = s.l := rfl
@[simp] theorem setSP_fZ (v : Word) : (s.setSP v).fZ = s.fZ := rfl
@[simp] theorem setSP_fN (v : Word) : (s.setSP v).fN = s.fN := rfl
@[simp] theorem setSP_fH (v : Word) : (s.setSP v).fH = s.fH := rfl
@[simp] theorem setSP_fC (v : Word) : (s.setSP v).fC = s.fC := rfl
@[simp] theorem setSP_sp (v : Word) : (s.setSP v).sp = v := rfl
@[simp] theorem setSP_pc (v : Word) : (s.setSP v).pc = s.pc := rfl
@[simp] theorem setSP_ime (v : Word) : (s.setSP v).ime = s.ime := rfl
@[simp] theorem setSP_imePending (v : Word) : (s.setSP v).imePending = s.imePending := rfl
@[simp] theorem setSP_mode (v : Word) : (s.setSP v).mode = s.mode := rfl
@[simp] theorem setSP_mem (v : Word) : (s.setSP v).mem = s.mem := rfl
@[simp] theorem setSP_platform (v : Word) : (s.setSP v).platform = s.platform := rfl
@[simp] theorem setSP_params (v : Word) : (s.setSP v).params = s.params := rfl
@[simp] theorem setSP_peek (v : Word) (y : Word) : (s.setSP v).peek y = s.peek y := rfl
@[simp] theorem setSP_kindAt (v : Word) (y : Word) : (s.setSP v).kindAt y = s.kindAt y := rfl
@[simp] theorem setSP_bc (v : Word) : (s.setSP v).bc = s.bc := rfl
@[simp] theorem setSP_de (v : Word) : (s.setSP v).de = s.de := rfl
@[simp] theorem setSP_hl (v : Word) : (s.setSP v).hl = s.hl := rfl
@[simp] theorem setSP_flags (v : Word) : (s.setSP v).flags = s.flags := rfl

@[simp] theorem jump_a (v : Word) : (s.jump v).a = s.a := rfl
@[simp] theorem jump_b (v : Word) : (s.jump v).b = s.b := rfl
@[simp] theorem jump_c (v : Word) : (s.jump v).c = s.c := rfl
@[simp] theorem jump_d (v : Word) : (s.jump v).d = s.d := rfl
@[simp] theorem jump_e (v : Word) : (s.jump v).e = s.e := rfl
@[simp] theorem jump_h (v : Word) : (s.jump v).h = s.h := rfl
@[simp] theorem jump_l (v : Word) : (s.jump v).l = s.l := rfl
@[simp] theorem jump_fZ (v : Word) : (s.jump v).fZ = s.fZ := rfl
@[simp] theorem jump_fN (v : Word) : (s.jump v).fN = s.fN := rfl
@[simp] theorem jump_fH (v : Word) : (s.jump v).fH = s.fH := rfl
@[simp] theorem jump_fC (v : Word) : (s.jump v).fC = s.fC := rfl
@[simp] theorem jump_sp (v : Word) : (s.jump v).sp = s.sp := rfl
@[simp] theorem jump_pc (v : Word) : (s.jump v).pc = v := rfl
@[simp] theorem jump_ime (v : Word) : (s.jump v).ime = s.ime := rfl
@[simp] theorem jump_imePending (v : Word) : (s.jump v).imePending = s.imePending := rfl
@[simp] theorem jump_mode (v : Word) : (s.jump v).mode = s.mode := rfl
@[simp] theorem jump_mem (v : Word) : (s.jump v).mem = s.mem := rfl
@[simp] theorem jump_platform (v : Word) : (s.jump v).platform = s.platform := rfl
@[simp] theorem jump_params (v : Word) : (s.jump v).params = s.params := rfl
@[simp] theorem jump_peek (v : Word) (y : Word) : (s.jump v).peek y = s.peek y := rfl
@[simp] theorem jump_kindAt (v : Word) (y : Word) : (s.jump v).kindAt y = s.kindAt y := rfl
@[simp] theorem jump_bc (v : Word) : (s.jump v).bc = s.bc := rfl
@[simp] theorem jump_de (v : Word) : (s.jump v).de = s.de := rfl
@[simp] theorem jump_hl (v : Word) : (s.jump v).hl = s.hl := rfl
@[simp] theorem jump_flags (v : Word) : (s.jump v).flags = s.flags := rfl

@[simp] theorem advance_a (v : Word) : (s.advance v).a = s.a := rfl
@[simp] theorem advance_b (v : Word) : (s.advance v).b = s.b := rfl
@[simp] theorem advance_c (v : Word) : (s.advance v).c = s.c := rfl
@[simp] theorem advance_d (v : Word) : (s.advance v).d = s.d := rfl
@[simp] theorem advance_e (v : Word) : (s.advance v).e = s.e := rfl
@[simp] theorem advance_h (v : Word) : (s.advance v).h = s.h := rfl
@[simp] theorem advance_l (v : Word) : (s.advance v).l = s.l := rfl
@[simp] theorem advance_fZ (v : Word) : (s.advance v).fZ = s.fZ := rfl
@[simp] theorem advance_fN (v : Word) : (s.advance v).fN = s.fN := rfl
@[simp] theorem advance_fH (v : Word) : (s.advance v).fH = s.fH := rfl
@[simp] theorem advance_fC (v : Word) : (s.advance v).fC = s.fC := rfl
@[simp] theorem advance_sp (v : Word) : (s.advance v).sp = s.sp := rfl
@[simp] theorem advance_pc (v : Word) : (s.advance v).pc = s.pc + v := rfl
@[simp] theorem advance_ime (v : Word) : (s.advance v).ime = s.ime := rfl
@[simp] theorem advance_imePending (v : Word) : (s.advance v).imePending = s.imePending := rfl
@[simp] theorem advance_mode (v : Word) : (s.advance v).mode = s.mode := rfl
@[simp] theorem advance_mem (v : Word) : (s.advance v).mem = s.mem := rfl
@[simp] theorem advance_platform (v : Word) : (s.advance v).platform = s.platform := rfl
@[simp] theorem advance_params (v : Word) : (s.advance v).params = s.params := rfl
@[simp] theorem advance_peek (v : Word) (y : Word) : (s.advance v).peek y = s.peek y := rfl
@[simp] theorem advance_kindAt (v : Word) (y : Word) : (s.advance v).kindAt y = s.kindAt y := rfl
@[simp] theorem advance_bc (v : Word) : (s.advance v).bc = s.bc := rfl
@[simp] theorem advance_de (v : Word) : (s.advance v).de = s.de := rfl
@[simp] theorem advance_hl (v : Word) : (s.advance v).hl = s.hl := rfl
@[simp] theorem advance_flags (v : Word) : (s.advance v).flags = s.flags := rfl

@[simp] theorem schedule_a (p : ImePending) : (s.schedule p).a = s.a := rfl
@[simp] theorem schedule_b (p : ImePending) : (s.schedule p).b = s.b := rfl
@[simp] theorem schedule_c (p : ImePending) : (s.schedule p).c = s.c := rfl
@[simp] theorem schedule_d (p : ImePending) : (s.schedule p).d = s.d := rfl
@[simp] theorem schedule_e (p : ImePending) : (s.schedule p).e = s.e := rfl
@[simp] theorem schedule_h (p : ImePending) : (s.schedule p).h = s.h := rfl
@[simp] theorem schedule_l (p : ImePending) : (s.schedule p).l = s.l := rfl
@[simp] theorem schedule_fZ (p : ImePending) : (s.schedule p).fZ = s.fZ := rfl
@[simp] theorem schedule_fN (p : ImePending) : (s.schedule p).fN = s.fN := rfl
@[simp] theorem schedule_fH (p : ImePending) : (s.schedule p).fH = s.fH := rfl
@[simp] theorem schedule_fC (p : ImePending) : (s.schedule p).fC = s.fC := rfl
@[simp] theorem schedule_sp (p : ImePending) : (s.schedule p).sp = s.sp := rfl
@[simp] theorem schedule_pc (p : ImePending) : (s.schedule p).pc = s.pc := rfl
@[simp] theorem schedule_ime (p : ImePending) : (s.schedule p).ime = s.ime := rfl
@[simp] theorem schedule_imePending (p : ImePending) : (s.schedule p).imePending = p := rfl
@[simp] theorem schedule_mode (p : ImePending) : (s.schedule p).mode = s.mode := rfl
@[simp] theorem schedule_mem (p : ImePending) : (s.schedule p).mem = s.mem := rfl
@[simp] theorem schedule_platform (p : ImePending) : (s.schedule p).platform = s.platform := rfl
@[simp] theorem schedule_params (p : ImePending) : (s.schedule p).params = s.params := rfl
@[simp] theorem schedule_peek (p : ImePending) (y : Word) : (s.schedule p).peek y = s.peek y := rfl
@[simp] theorem schedule_kindAt (p : ImePending) (y : Word) : (s.schedule p).kindAt y = s.kindAt y := rfl
@[simp] theorem schedule_bc (p : ImePending) : (s.schedule p).bc = s.bc := rfl
@[simp] theorem schedule_de (p : ImePending) : (s.schedule p).de = s.de := rfl
@[simp] theorem schedule_hl (p : ImePending) : (s.schedule p).hl = s.hl := rfl
@[simp] theorem schedule_flags (p : ImePending) : (s.schedule p).flags = s.flags := rfl

@[simp] theorem enter_a (m : Mode) : (s.enter m).a = s.a := rfl
@[simp] theorem enter_b (m : Mode) : (s.enter m).b = s.b := rfl
@[simp] theorem enter_c (m : Mode) : (s.enter m).c = s.c := rfl
@[simp] theorem enter_d (m : Mode) : (s.enter m).d = s.d := rfl
@[simp] theorem enter_e (m : Mode) : (s.enter m).e = s.e := rfl
@[simp] theorem enter_h (m : Mode) : (s.enter m).h = s.h := rfl
@[simp] theorem enter_l (m : Mode) : (s.enter m).l = s.l := rfl
@[simp] theorem enter_fZ (m : Mode) : (s.enter m).fZ = s.fZ := rfl
@[simp] theorem enter_fN (m : Mode) : (s.enter m).fN = s.fN := rfl
@[simp] theorem enter_fH (m : Mode) : (s.enter m).fH = s.fH := rfl
@[simp] theorem enter_fC (m : Mode) : (s.enter m).fC = s.fC := rfl
@[simp] theorem enter_sp (m : Mode) : (s.enter m).sp = s.sp := rfl
@[simp] theorem enter_pc (m : Mode) : (s.enter m).pc = s.pc := rfl
@[simp] theorem enter_ime (m : Mode) : (s.enter m).ime = s.ime := rfl
@[simp] theorem enter_imePending (m : Mode) : (s.enter m).imePending = s.imePending := rfl
@[simp] theorem enter_mode (m : Mode) : (s.enter m).mode = m := rfl
@[simp] theorem enter_mem (m : Mode) : (s.enter m).mem = s.mem := rfl
@[simp] theorem enter_platform (m : Mode) : (s.enter m).platform = s.platform := rfl
@[simp] theorem enter_params (m : Mode) : (s.enter m).params = s.params := rfl
@[simp] theorem enter_peek (m : Mode) (y : Word) : (s.enter m).peek y = s.peek y := rfl
@[simp] theorem enter_kindAt (m : Mode) (y : Word) : (s.enter m).kindAt y = s.kindAt y := rfl
@[simp] theorem enter_bc (m : Mode) : (s.enter m).bc = s.bc := rfl
@[simp] theorem enter_de (m : Mode) : (s.enter m).de = s.de := rfl
@[simp] theorem enter_hl (m : Mode) : (s.enter m).hl = s.hl := rfl
@[simp] theorem enter_flags (m : Mode) : (s.enter m).flags = s.flags := rfl

@[simp] theorem poke_a (x : Word) (v : Byte) : (s.poke x v).a = s.a := rfl
@[simp] theorem poke_b (x : Word) (v : Byte) : (s.poke x v).b = s.b := rfl
@[simp] theorem poke_c (x : Word) (v : Byte) : (s.poke x v).c = s.c := rfl
@[simp] theorem poke_d (x : Word) (v : Byte) : (s.poke x v).d = s.d := rfl
@[simp] theorem poke_e (x : Word) (v : Byte) : (s.poke x v).e = s.e := rfl
@[simp] theorem poke_h (x : Word) (v : Byte) : (s.poke x v).h = s.h := rfl
@[simp] theorem poke_l (x : Word) (v : Byte) : (s.poke x v).l = s.l := rfl
@[simp] theorem poke_fZ (x : Word) (v : Byte) : (s.poke x v).fZ = s.fZ := rfl
@[simp] theorem poke_fN (x : Word) (v : Byte) : (s.poke x v).fN = s.fN := rfl
@[simp] theorem poke_fH (x : Word) (v : Byte) : (s.poke x v).fH = s.fH := rfl
@[simp] theorem poke_fC (x : Word) (v : Byte) : (s.poke x v).fC = s.fC := rfl
@[simp] theorem poke_sp (x : Word) (v : Byte) : (s.poke x v).sp = s.sp := rfl
@[simp] theorem poke_pc (x : Word) (v : Byte) : (s.poke x v).pc = s.pc := rfl
@[simp] theorem poke_ime (x : Word) (v : Byte) : (s.poke x v).ime = s.ime := rfl
@[simp] theorem poke_imePending (x : Word) (v : Byte) : (s.poke x v).imePending = s.imePending := rfl
@[simp] theorem poke_mode (x : Word) (v : Byte) : (s.poke x v).mode = s.mode := rfl
@[simp] theorem poke_mem (x : Word) (v : Byte) : (s.poke x v).mem = s.mem.write x.toNat v := rfl
@[simp] theorem poke_platform (x : Word) (v : Byte) : (s.poke x v).platform = s.platform := rfl
@[simp] theorem poke_params (x : Word) (v : Byte) : (s.poke x v).params = s.params := rfl
@[simp] theorem poke_kindAt (x : Word) (v : Byte) (y : Word) : (s.poke x v).kindAt y = s.kindAt y := rfl
@[simp] theorem poke_bc (x : Word) (v : Byte) : (s.poke x v).bc = s.bc := rfl
@[simp] theorem poke_de (x : Word) (v : Byte) : (s.poke x v).de = s.de := rfl
@[simp] theorem poke_hl (x : Word) (v : Byte) : (s.poke x v).hl = s.hl := rfl
@[simp] theorem poke_flags (x : Word) (v : Byte) : (s.poke x v).flags = s.flags := rfl

@[simp] theorem logAccess_a (acc : Config.BusAccess) : (s.logAccess acc).a = s.a := rfl
@[simp] theorem logAccess_b (acc : Config.BusAccess) : (s.logAccess acc).b = s.b := rfl
@[simp] theorem logAccess_c (acc : Config.BusAccess) : (s.logAccess acc).c = s.c := rfl
@[simp] theorem logAccess_d (acc : Config.BusAccess) : (s.logAccess acc).d = s.d := rfl
@[simp] theorem logAccess_e (acc : Config.BusAccess) : (s.logAccess acc).e = s.e := rfl
@[simp] theorem logAccess_h (acc : Config.BusAccess) : (s.logAccess acc).h = s.h := rfl
@[simp] theorem logAccess_l (acc : Config.BusAccess) : (s.logAccess acc).l = s.l := rfl
@[simp] theorem logAccess_fZ (acc : Config.BusAccess) : (s.logAccess acc).fZ = s.fZ := rfl
@[simp] theorem logAccess_fN (acc : Config.BusAccess) : (s.logAccess acc).fN = s.fN := rfl
@[simp] theorem logAccess_fH (acc : Config.BusAccess) : (s.logAccess acc).fH = s.fH := rfl
@[simp] theorem logAccess_fC (acc : Config.BusAccess) : (s.logAccess acc).fC = s.fC := rfl
@[simp] theorem logAccess_sp (acc : Config.BusAccess) : (s.logAccess acc).sp = s.sp := rfl
@[simp] theorem logAccess_pc (acc : Config.BusAccess) : (s.logAccess acc).pc = s.pc := rfl
@[simp] theorem logAccess_ime (acc : Config.BusAccess) : (s.logAccess acc).ime = s.ime := rfl
@[simp] theorem logAccess_imePending (acc : Config.BusAccess) : (s.logAccess acc).imePending = s.imePending := rfl
@[simp] theorem logAccess_mode (acc : Config.BusAccess) : (s.logAccess acc).mode = s.mode := rfl
@[simp] theorem logAccess_mem (acc : Config.BusAccess) : (s.logAccess acc).mem = s.mem := rfl
@[simp] theorem logAccess_platform (acc : Config.BusAccess) : (s.logAccess acc).platform = { s.platform with bus := acc :: s.platform.bus } := rfl
@[simp] theorem logAccess_params (acc : Config.BusAccess) : (s.logAccess acc).params = s.params := rfl
@[simp] theorem logAccess_peek (acc : Config.BusAccess) (y : Word) : (s.logAccess acc).peek y = s.peek y := rfl
@[simp] theorem logAccess_kindAt (acc : Config.BusAccess) (y : Word) : (s.logAccess acc).kindAt y = s.kindAt y := rfl
@[simp] theorem logAccess_bc (acc : Config.BusAccess) : (s.logAccess acc).bc = s.bc := rfl
@[simp] theorem logAccess_de (acc : Config.BusAccess) : (s.logAccess acc).de = s.de := rfl
@[simp] theorem logAccess_hl (acc : Config.BusAccess) : (s.logAccess acc).hl = s.hl := rfl
@[simp] theorem logAccess_flags (acc : Config.BusAccess) : (s.logAccess acc).flags = s.flags := rfl

@[simp] theorem setCells_a (cs : Memory) : (s.setCells cs).a = s.a := rfl
@[simp] theorem setCells_b (cs : Memory) : (s.setCells cs).b = s.b := rfl
@[simp] theorem setCells_c (cs : Memory) : (s.setCells cs).c = s.c := rfl
@[simp] theorem setCells_d (cs : Memory) : (s.setCells cs).d = s.d := rfl
@[simp] theorem setCells_e (cs : Memory) : (s.setCells cs).e = s.e := rfl
@[simp] theorem setCells_h (cs : Memory) : (s.setCells cs).h = s.h := rfl
@[simp] theorem setCells_l (cs : Memory) : (s.setCells cs).l = s.l := rfl
@[simp] theorem setCells_fZ (cs : Memory) : (s.setCells cs).fZ = s.fZ := rfl
@[simp] theorem setCells_fN (cs : Memory) : (s.setCells cs).fN = s.fN := rfl
@[simp] theorem setCells_fH (cs : Memory) : (s.setCells cs).fH = s.fH := rfl
@[simp] theorem setCells_fC (cs : Memory) : (s.setCells cs).fC = s.fC := rfl
@[simp] theorem setCells_sp (cs : Memory) : (s.setCells cs).sp = s.sp := rfl
@[simp] theorem setCells_pc (cs : Memory) : (s.setCells cs).pc = s.pc := rfl
@[simp] theorem setCells_ime (cs : Memory) : (s.setCells cs).ime = s.ime := rfl
@[simp] theorem setCells_imePending (cs : Memory) : (s.setCells cs).imePending = s.imePending := rfl
@[simp] theorem setCells_mode (cs : Memory) : (s.setCells cs).mode = s.mode := rfl
@[simp] theorem setCells_mem (cs : Memory) : (s.setCells cs).mem = s.mem := rfl
@[simp] theorem setCells_platform (cs : Memory) : (s.setCells cs).platform = { s.platform with cells := cs } := rfl
@[simp] theorem setCells_params (cs : Memory) : (s.setCells cs).params = s.params := rfl
@[simp] theorem setCells_peek (cs : Memory) (y : Word) : (s.setCells cs).peek y = s.peek y := rfl
@[simp] theorem setCells_kindAt (cs : Memory) (y : Word) : (s.setCells cs).kindAt y = s.kindAt y := rfl
@[simp] theorem setCells_bc (cs : Memory) : (s.setCells cs).bc = s.bc := rfl
@[simp] theorem setCells_de (cs : Memory) : (s.setCells cs).de = s.de := rfl
@[simp] theorem setCells_hl (cs : Memory) : (s.setCells cs).hl = s.hl := rfl
@[simp] theorem setCells_flags (cs : Memory) : (s.setCells cs).flags = s.flags := rfl

end Sys2Proof.Machine.State
end

