-- ==== Sys2Proof/Laws/Ops.lean ====
section
/-! SUPPORT. What each shared operation over memory, stack and interrupts can do, said once: an access
through the memory map by what lies at the address, the fields it leaves alone, `push16` and `pop16`,
interrupt entry and return, and the platform's part of a step. -/

namespace Sys2Proof.Machine.State

variable (s : State)

/-! ## Reading and writing through the map -/

/-- A read of stored memory (RAM or ROM) gives the stored byte and changes nothing. -/
theorem memRead_stored (x : Word) (h : s.kindAt x = .ram ∨ s.kindAt x = .rom) : s.memRead x = (s.peek x, s) := by
  rcases h with h | h <;> simp [memRead, h]

/-- A read where nothing is. -/
theorem memRead_absent (x : Word) (v : Byte) (h : s.kindAt x = .absent v) : s.memRead x = (v, s) := by
  simp [memRead, h]

/-- A read of a device. -/
theorem memRead_device (x : Word) (h : s.kindAt x = .device) :
    s.memRead x = (Config.deviceByte s.platform.bus x, s.logAccess (.read x (Config.deviceByte s.platform.bus x))) := by
  simp [memRead, h]

/-- A read through a given map. -/
theorem memRead_given (x : Word) (m : Config.GivenMap) (h : s.kindAt x = .given m) : s.memRead x = s.readGiven m x := by
  simp [memRead, h]

/-- Everything a read can do to the state: nothing, one more access on the bus, or new platform cells. -/
theorem memRead_state (x : Word) :
    (s.memRead x).2 = s ∨ (∃ acc, (s.memRead x).2 = s.logAccess acc) ∨ ∃ cs, (s.memRead x).2 = s.setCells cs := by
  unfold memRead; split
  · exact .inl rfl
  · exact .inl rfl
  · exact .inl rfl
  · exact .inr (.inl ⟨_, rfl⟩)
  · exact .inr (.inr ⟨_, rfl⟩)

/-- Everything a write can do to the state: nothing, the byte stored, one more access on the bus, or new
platform cells. -/
theorem memWrite_state (x : Word) (v : Byte) :
    s.memWrite x v = s ∨ s.memWrite x v = s.poke x v ∨ s.memWrite x v = s.logAccess (.write x v) ∨
    ∃ cs, s.memWrite x v = s.setCells cs := by
  unfold memWrite; split
  · exact .inr (.inl rfl)
  · exact .inl rfl
  · exact .inl rfl
  · exact .inr (.inr (.inl rfl))
  · exact .inr (.inr (.inr ⟨_, rfl⟩))

theorem memWrite_ram (x : Word) (v : Byte) (h : s.kindAt x = .ram) : s.memWrite x v = s.poke x v := by
  simp [memWrite, h]

theorem memWrite_rom (x : Word) (v : Byte) (h : s.kindAt x = .rom) : s.memWrite x v = s := by
  simp [memWrite, h]

theorem memWrite_absent (x : Word) (v w : Byte) (h : s.kindAt x = .absent w) : s.memWrite x v = s := by
  simp [memWrite, h]

theorem memWrite_device (x : Word) (v : Byte) (h : s.kindAt x = .device) :
    s.memWrite x v = s.logAccess (.write x v) := by
  simp [memWrite, h]

theorem memWrite_given (x : Word) (v : Byte) (m : Config.GivenMap) (h : s.kindAt x = .given m) :
    s.memWrite x v = s.writeGiven m x v := by
  simp [memWrite, h]

@[simp] theorem memWrite_a (x : Word) (v : Byte) : (s.memWrite x v).a = s.a := by
  rcases s.memWrite_state x v with h | h | h | ⟨cs, h⟩ <;> simp [h]
@[simp] theorem memWrite_b (x : Word) (v : Byte) : (s.memWrite x v).b = s.b := by
  rcases s.memWrite_state x v with h | h | h | ⟨cs, h⟩ <;> simp [h]
@[simp] theorem memWrite_c (x : Word) (v : Byte) : (s.memWrite x v).c = s.c := by
  rcases s.memWrite_state x v with h | h | h | ⟨cs, h⟩ <;> simp [h]
@[simp] theorem memWrite_d (x : Word) (v : Byte) : (s.memWrite x v).d = s.d := by
  rcases s.memWrite_state x v with h | h | h | ⟨cs, h⟩ <;> simp [h]
@[simp] theorem memWrite_e (x : Word) (v : Byte) : (s.memWrite x v).e = s.e := by
  rcases s.memWrite_state x v with h | h | h | ⟨cs, h⟩ <;> simp [h]
@[simp] theorem memWrite_h (x : Word) (v : Byte) : (s.memWrite x v).h = s.h := by
  rcases s.memWrite_state x v with h | h | h | ⟨cs, h⟩ <;> simp [h]
@[simp] theorem memWrite_l (x : Word) (v : Byte) : (s.memWrite x v).l = s.l := by
  rcases s.memWrite_state x v with h | h | h | ⟨cs, h⟩ <;> simp [h]
@[simp] theorem memWrite_fZ (x : Word) (v : Byte) : (s.memWrite x v).fZ = s.fZ := by
  rcases s.memWrite_state x v with h | h | h | ⟨cs, h⟩ <;> simp [h]
@[simp] theorem memWrite_fN (x : Word) (v : Byte) : (s.memWrite x v).fN = s.fN := by
  rcases s.memWrite_state x v with h | h | h | ⟨cs, h⟩ <;> simp [h]
@[simp] theorem memWrite_fH (x : Word) (v : Byte) : (s.memWrite x v).fH = s.fH := by
  rcases s.memWrite_state x v with h | h | h | ⟨cs, h⟩ <;> simp [h]
@[simp] theorem memWrite_fC (x : Word) (v : Byte) : (s.memWrite x v).fC = s.fC := by
  rcases s.memWrite_state x v with h | h | h | ⟨cs, h⟩ <;> simp [h]
@[simp] theorem memWrite_sp (x : Word) (v : Byte) : (s.memWrite x v).sp = s.sp := by
  rcases s.memWrite_state x v with h | h | h | ⟨cs, h⟩ <;> simp [h]
@[simp] theorem memWrite_pc (x : Word) (v : Byte) : (s.memWrite x v).pc = s.pc := by
  rcases s.memWrite_state x v with h | h | h | ⟨cs, h⟩ <;> simp [h]
@[simp] theorem memWrite_ime (x : Word) (v : Byte) : (s.memWrite x v).ime = s.ime := by
  rcases s.memWrite_state x v with h | h | h | ⟨cs, h⟩ <;> simp [h]
@[simp] theorem memWrite_imePending (x : Word) (v : Byte) : (s.memWrite x v).imePending = s.imePending := by
  rcases s.memWrite_state x v with h | h | h | ⟨cs, h⟩ <;> simp [h]
@[simp] theorem memWrite_mode (x : Word) (v : Byte) : (s.memWrite x v).mode = s.mode := by
  rcases s.memWrite_state x v with h | h | h | ⟨cs, h⟩ <;> simp [h]
@[simp] theorem memWrite_params (x : Word) (v : Byte) : (s.memWrite x v).params = s.params := by
  rcases s.memWrite_state x v with h | h | h | ⟨cs, h⟩ <;> simp [h]
@[simp] theorem memWrite_kindAt (x y : Word) (v : Byte) : (s.memWrite x v).kindAt y = s.kindAt y := by
  simp [kindAt]
@[simp] theorem memWrite_bc (x : Word) (v : Byte) : (s.memWrite x v).bc = s.bc := by
  simp [bc]
@[simp] theorem memWrite_de (x : Word) (v : Byte) : (s.memWrite x v).de = s.de := by
  simp [de]
@[simp] theorem memWrite_hl (x : Word) (v : Byte) : (s.memWrite x v).hl = s.hl := by
  simp [hl]
@[simp] theorem memWrite_flags (x : Word) (v : Byte) : (s.memWrite x v).flags = s.flags := by
  simp [flags]

/-- The fields a write can change: memory, the bus log and the platform cells. -/
theorem memWrite_frame (x : Word) (v : Byte) :
    s.memWrite x v = { s with
      mem := (s.memWrite x v).mem
      platform := { s.platform with bus := (s.memWrite x v).platform.bus, cells := (s.memWrite x v).platform.cells } } := by
  rcases s.memWrite_state x v with h | h | h | ⟨cs, h⟩ <;> rw [h] <;> rfl

/-- The fields a read can change: the bus log and the platform cells. -/
theorem memRead_frame (x : Word) :
    (s.memRead x).2 = { s with
      platform := { s.platform with bus := (s.memRead x).2.platform.bus, cells := (s.memRead x).2.platform.cells } } := by
  rcases s.memRead_state x with h | ⟨acc, h⟩ | ⟨cs, h⟩ <;> rw [h] <;> rfl

/-- Without a given map at the address, a write leaves the platform cells alone. -/
theorem memWrite_cells_of_not_given (x : Word) (v : Byte) (h : ∀ m, s.kindAt x ≠ .given m) :
    (s.memWrite x v).platform.cells = s.platform.cells := by
  unfold memWrite; split
  · rfl
  · rfl
  · rfl
  · rfl
  · next m hm => exact absurd hm (h m)

/-- Without a given map at the address, a read leaves the platform cells alone. -/
theorem memRead_cells_of_not_given (x : Word) (h : ∀ m, s.kindAt x ≠ .given m) :
    (s.memRead x).2.platform.cells = s.platform.cells := by
  unfold memRead; split
  · rfl
  · rfl
  · rfl
  · rfl
  · next m hm => exact absurd hm (h m)

/-- A write never shortens the bus log. -/
theorem memWrite_bus (x : Word) (v : Byte) : s.platform.bus <:+ (s.memWrite x v).platform.bus := by
  rcases s.memWrite_state x v with h | h | h | ⟨cs, h⟩ <;> simp [h]

/-- A read never shortens the bus log. -/
theorem memRead_bus (x : Word) : s.platform.bus <:+ (s.memRead x).2.platform.bus := by
  rcases s.memRead_state x with h | ⟨acc, h⟩ | ⟨cs, h⟩ <;> simp [h]

/-- A write leaves every other address alone, whatever lies at its own. -/
theorem memWrite_peek_other (x y : Word) (v : Byte) (h : y ≠ x) : (s.memWrite x v).peek y = s.peek y := by
  rcases s.memWrite_state x v with e | e | e | ⟨cs, e⟩ <;> rw [e]
  · exact Memory.read_write_other _ _ _ _ (fun hh => h (BitVec.eq_of_toNat_eq hh))
  · rfl
  · rfl

/-- A write to RAM is read back. -/
theorem memWrite_peek_same (x : Word) (v : Byte) (hk : s.kindAt x = .ram) (hm : s.mem.wf = true) :
    (s.memWrite x v).peek x = v := by
  rw [memWrite_ram s x v hk]; exact Memory.read_write_same _ _ _ hm

/-- A write keeps the canonical form of memory. -/
theorem memWrite_wf (x : Word) (v : Byte) (h : s.mem.wf = true) : (s.memWrite x v).mem.wf = true := by
  rcases s.memWrite_state x v with e | e | e | ⟨cs, e⟩ <;> rw [e]
  · exact h
  · exact Memory.wf_write _ _ _ x.isLt h
  · exact h
  · exact h

/-- A write keeps the canonical form of the platform cells. -/
theorem memWrite_cells (x : Word) (v : Byte) (h : s.platform.cells.canonical = true) :
    (s.memWrite x v).platform.cells.canonical = true := by
  unfold memWrite; split
  · exact h
  · exact h
  · exact h
  · exact h
  · exact writeCells_canonical _ _ h

/-- A read keeps the canonical form of the platform cells. -/
theorem memRead_cells (x : Word) (h : s.platform.cells.canonical = true) :
    (s.memRead x).2.platform.cells.canonical = true := by
  unfold memRead; split
  · exact h
  · exact h
  · exact h
  · exact h
  · exact writeCells_canonical _ _ h

@[simp] theorem memRead_a (x : Word) : (s.memRead x).2.a = s.a := by
  rcases s.memRead_state x with h | ⟨acc, h⟩ | ⟨cs, h⟩ <;> simp [h]
@[simp] theorem memRead_b (x : Word) : (s.memRead x).2.b = s.b := by
  rcases s.memRead_state x with h | ⟨acc, h⟩ | ⟨cs, h⟩ <;> simp [h]
@[simp] theorem memRead_c (x : Word) : (s.memRead x).2.c = s.c := by
  rcases s.memRead_state x with h | ⟨acc, h⟩ | ⟨cs, h⟩ <;> simp [h]
@[simp] theorem memRead_d (x : Word) : (s.memRead x).2.d = s.d := by
  rcases s.memRead_state x with h | ⟨acc, h⟩ | ⟨cs, h⟩ <;> simp [h]
@[simp] theorem memRead_e (x : Word) : (s.memRead x).2.e = s.e := by
  rcases s.memRead_state x with h | ⟨acc, h⟩ | ⟨cs, h⟩ <;> simp [h]
@[simp] theorem memRead_h (x : Word) : (s.memRead x).2.h = s.h := by
  rcases s.memRead_state x with h | ⟨acc, h⟩ | ⟨cs, h⟩ <;> simp [h]
@[simp] theorem memRead_l (x : Word) : (s.memRead x).2.l = s.l := by
  rcases s.memRead_state x with h | ⟨acc, h⟩ | ⟨cs, h⟩ <;> simp [h]
@[simp] theorem memRead_fZ (x : Word) : (s.memRead x).2.fZ = s.fZ := by
  rcases s.memRead_state x with h | ⟨acc, h⟩ | ⟨cs, h⟩ <;> simp [h]
@[simp] theorem memRead_fN (x : Word) : (s.memRead x).2.fN = s.fN := by
  rcases s.memRead_state x with h | ⟨acc, h⟩ | ⟨cs, h⟩ <;> simp [h]
@[simp] theorem memRead_fH (x : Word) : (s.memRead x).2.fH = s.fH := by
  rcases s.memRead_state x with h | ⟨acc, h⟩ | ⟨cs, h⟩ <;> simp [h]
@[simp] theorem memRead_fC (x : Word) : (s.memRead x).2.fC = s.fC := by
  rcases s.memRead_state x with h | ⟨acc, h⟩ | ⟨cs, h⟩ <;> simp [h]
@[simp] theorem memRead_sp (x : Word) : (s.memRead x).2.sp = s.sp := by
  rcases s.memRead_state x with h | ⟨acc, h⟩ | ⟨cs, h⟩ <;> simp [h]
@[simp] theorem memRead_pc (x : Word) : (s.memRead x).2.pc = s.pc := by
  rcases s.memRead_state x with h | ⟨acc, h⟩ | ⟨cs, h⟩ <;> simp [h]
@[simp] theorem memRead_ime (x : Word) : (s.memRead x).2.ime = s.ime := by
  rcases s.memRead_state x with h | ⟨acc, h⟩ | ⟨cs, h⟩ <;> simp [h]
@[simp] theorem memRead_imePending (x : Word) : (s.memRead x).2.imePending = s.imePending := by
  rcases s.memRead_state x with h | ⟨acc, h⟩ | ⟨cs, h⟩ <;> simp [h]
@[simp] theorem memRead_mode (x : Word) : (s.memRead x).2.mode = s.mode := by
  rcases s.memRead_state x with h | ⟨acc, h⟩ | ⟨cs, h⟩ <;> simp [h]
@[simp] theorem memRead_params (x : Word) : (s.memRead x).2.params = s.params := by
  rcases s.memRead_state x with h | ⟨acc, h⟩ | ⟨cs, h⟩ <;> simp [h]
@[simp] theorem memRead_mem (x : Word) : (s.memRead x).2.mem = s.mem := by
  rcases s.memRead_state x with h | ⟨acc, h⟩ | ⟨cs, h⟩ <;> simp [h]
@[simp] theorem memRead_kindAt (x y : Word) : (s.memRead x).2.kindAt y = s.kindAt y := by
  simp [kindAt]
@[simp] theorem memRead_peek (x y : Word) : (s.memRead x).2.peek y = s.peek y := by
  simp [peek]
@[simp] theorem memRead_bc (x : Word) : (s.memRead x).2.bc = s.bc := by
  simp [bc]
@[simp] theorem memRead_de (x : Word) : (s.memRead x).2.de = s.de := by
  simp [de]
@[simp] theorem memRead_hl (x : Word) : (s.memRead x).2.hl = s.hl := by
  simp [hl]
@[simp] theorem memRead_flags (x : Word) : (s.memRead x).2.flags = s.flags := by
  simp [flags]

/-! ## The stack -/

@[simp] theorem push16_a (v : Word) : (s.push16 v).a = s.a := by simp [push16]
@[simp] theorem push16_b (v : Word) : (s.push16 v).b = s.b := by simp [push16]
@[simp] theorem push16_c (v : Word) : (s.push16 v).c = s.c := by simp [push16]
@[simp] theorem push16_d (v : Word) : (s.push16 v).d = s.d := by simp [push16]
@[simp] theorem push16_e (v : Word) : (s.push16 v).e = s.e := by simp [push16]
@[simp] theorem push16_h (v : Word) : (s.push16 v).h = s.h := by simp [push16]
@[simp] theorem push16_l (v : Word) : (s.push16 v).l = s.l := by simp [push16]
@[simp] theorem push16_fZ (v : Word) : (s.push16 v).fZ = s.fZ := by simp [push16]
@[simp] theorem push16_fN (v : Word) : (s.push16 v).fN = s.fN := by simp [push16]
@[simp] theorem push16_fH (v : Word) : (s.push16 v).fH = s.fH := by simp [push16]
@[simp] theorem push16_fC (v : Word) : (s.push16 v).fC = s.fC := by simp [push16]
@[simp] theorem push16_pc (v : Word) : (s.push16 v).pc = s.pc := by simp [push16]
@[simp] theorem push16_ime (v : Word) : (s.push16 v).ime = s.ime := by simp [push16]
@[simp] theorem push16_imePending (v : Word) : (s.push16 v).imePending = s.imePending := by simp [push16]
@[simp] theorem push16_mode (v : Word) : (s.push16 v).mode = s.mode := by simp [push16]
@[simp] theorem push16_params (v : Word) : (s.push16 v).params = s.params := by simp [push16]
@[simp] theorem push16_sp (v : Word) : (s.push16 v).sp = s.sp - 2 := by
  simp only [push16, setSP_sp, memWrite_sp]; bv_omega

/-- What `push16` does: SP is two less, the high byte is written first, at SP-1, then the low byte, at
SP-2. -/
theorem push16_spec (v : Word) :
    s.push16 v = (((s.memWrite (s.sp - 1) (hiByte v)).memWrite (s.sp - 2) (loByte v)).setSP (s.sp - 2)) := by
  have hsp : s.sp - 1 - 1 = s.sp - 2 := by bv_omega
  have comm : ∀ (u : State) (y : Word) (x : Word) (w : Byte), (u.setSP y).memWrite x w = (u.memWrite x w).setSP y := by
    intro u y x w
    cases hk : u.kindAt x <;> simp [memWrite, hk] <;> rfl
  simp only [push16, comm, setSP_sp, hsp]
  rfl

@[simp] theorem pop16_a : s.pop16.2.a = s.a := by simp [pop16]
@[simp] theorem pop16_b : s.pop16.2.b = s.b := by simp [pop16]
@[simp] theorem pop16_c : s.pop16.2.c = s.c := by simp [pop16]
@[simp] theorem pop16_d : s.pop16.2.d = s.d := by simp [pop16]
@[simp] theorem pop16_e : s.pop16.2.e = s.e := by simp [pop16]
@[simp] theorem pop16_h : s.pop16.2.h = s.h := by simp [pop16]
@[simp] theorem pop16_l : s.pop16.2.l = s.l := by simp [pop16]
@[simp] theorem pop16_fZ : s.pop16.2.fZ = s.fZ := by simp [pop16]
@[simp] theorem pop16_fN : s.pop16.2.fN = s.fN := by simp [pop16]
@[simp] theorem pop16_fH : s.pop16.2.fH = s.fH := by simp [pop16]
@[simp] theorem pop16_fC : s.pop16.2.fC = s.fC := by simp [pop16]
@[simp] theorem pop16_pc : s.pop16.2.pc = s.pc := by simp [pop16]
@[simp] theorem pop16_ime : s.pop16.2.ime = s.ime := by simp [pop16]
@[simp] theorem pop16_imePending : s.pop16.2.imePending = s.imePending := by simp [pop16]
@[simp] theorem pop16_mode : s.pop16.2.mode = s.mode := by simp [pop16]
@[simp] theorem pop16_params : s.pop16.2.params = s.params := by simp [pop16]
@[simp] theorem pop16_mem : s.pop16.2.mem = s.mem := by simp [pop16]
@[simp] theorem pop16_sp : s.pop16.2.sp = s.sp + 2 := by
  simp only [pop16, setSP_sp, memRead_sp]; bv_omega
@[simp] theorem pop16_peek (y : Word) : s.pop16.2.peek y = s.peek y := by simp [peek]

/-- What `pop16` does on stored memory: the low byte is at SP, the high byte at SP+1, and only SP changes. -/
theorem pop16_stored (h0 : s.kindAt s.sp = .ram ∨ s.kindAt s.sp = .rom)
    (h1 : s.kindAt (s.sp + 1) = .ram ∨ s.kindAt (s.sp + 1) = .rom) :
    s.pop16 = (joinBytes (s.peek (s.sp + 1)) (s.peek s.sp), s.setSP (s.sp + 2)) := by
  have hsp : s.sp + 1 + 1 = s.sp + 2 := by bv_omega
  have e : (s.setSP (s.sp + 1)).memRead (s.sp + 1) = (s.peek (s.sp + 1), s.setSP (s.sp + 1)) :=
    (s.setSP (s.sp + 1)).memRead_stored _ (by simpa using h1)
  simp only [pop16, memRead_stored s s.sp h0, setSP_sp, e, hsp]
  rfl

/-! ## Interrupts and the platform -/

/-- What `IntSource.select` can do: the platform drops a request, IF (0xFF0F) is rewritten, or a given source
writes platform cells. -/
theorem intSelect_state (r : Word × State) (h : s.intSelect = some r) :
    (∃ vs, r.2 = { s with platform := { s.platform with requests := vs } }) ∨ (∃ v, r.2 = s.poke ifAddr v) ∨
    ∃ view ws, view.cells = s.platform.cells ∧ r.2 = s.setCells (writeCells view ws) := by
  unfold intSelect at h
  split at h
  · split at h
    · cases h
    · cases h; exact .inl ⟨_, rfl⟩
  · split at h
    · cases h
    · cases h; exact .inr (.inl ⟨_, rfl⟩)
  · unfold selectGiven at h
    simp only at h
    split at h
    · cases h
    · cases h; exact .inr (.inr ⟨_, _, rfl, rfl⟩)

/-- Nothing is taken with IME clear. -/
theorem intTaken_of_ime_clear (h : s.ime = false) : s.intTaken = none := by simp [intTaken, h]

/-- With nothing arriving, the platform does nothing. -/
theorem deliver_nil (h : s.platform.arrivals = []) : s.deliver = s := by simp [deliver, h]

@[simp] theorem applyEvent_a (ev : PlatformEvent) : (s.applyEvent ev).a = s.a := by cases ev <;> rfl
@[simp] theorem applyEvent_b (ev : PlatformEvent) : (s.applyEvent ev).b = s.b := by cases ev <;> rfl
@[simp] theorem applyEvent_c (ev : PlatformEvent) : (s.applyEvent ev).c = s.c := by cases ev <;> rfl
@[simp] theorem applyEvent_d (ev : PlatformEvent) : (s.applyEvent ev).d = s.d := by cases ev <;> rfl
@[simp] theorem applyEvent_e (ev : PlatformEvent) : (s.applyEvent ev).e = s.e := by cases ev <;> rfl
@[simp] theorem applyEvent_h (ev : PlatformEvent) : (s.applyEvent ev).h = s.h := by cases ev <;> rfl
@[simp] theorem applyEvent_l (ev : PlatformEvent) : (s.applyEvent ev).l = s.l := by cases ev <;> rfl
@[simp] theorem applyEvent_fZ (ev : PlatformEvent) : (s.applyEvent ev).fZ = s.fZ := by cases ev <;> rfl
@[simp] theorem applyEvent_fN (ev : PlatformEvent) : (s.applyEvent ev).fN = s.fN := by cases ev <;> rfl
@[simp] theorem applyEvent_fH (ev : PlatformEvent) : (s.applyEvent ev).fH = s.fH := by cases ev <;> rfl
@[simp] theorem applyEvent_fC (ev : PlatformEvent) : (s.applyEvent ev).fC = s.fC := by cases ev <;> rfl
@[simp] theorem applyEvent_sp (ev : PlatformEvent) : (s.applyEvent ev).sp = s.sp := by cases ev <;> rfl
@[simp] theorem applyEvent_pc (ev : PlatformEvent) : (s.applyEvent ev).pc = s.pc := by cases ev <;> rfl
@[simp] theorem applyEvent_ime (ev : PlatformEvent) : (s.applyEvent ev).ime = s.ime := by cases ev <;> rfl
@[simp] theorem applyEvent_imePending (ev : PlatformEvent) : (s.applyEvent ev).imePending = s.imePending := by cases ev <;> rfl
@[simp] theorem applyEvent_mode (ev : PlatformEvent) : (s.applyEvent ev).mode = s.mode := by cases ev <;> rfl
@[simp] theorem applyEvent_params (ev : PlatformEvent) : (s.applyEvent ev).params = s.params := by cases ev <;> rfl
theorem foldl_applyEvent_a (evs : List PlatformEvent) : (evs.foldl applyEvent s).a = s.a := by
  induction evs generalizing s with
  | nil => rfl
  | cons ev rest ih => rw [List.foldl_cons, ih, applyEvent_a]
@[simp] theorem deliver_a : s.deliver.a = s.a := by
  unfold deliver; split
  · rfl
  · rw [foldl_applyEvent_a]
theorem foldl_applyEvent_b (evs : List PlatformEvent) : (evs.foldl applyEvent s).b = s.b := by
  induction evs generalizing s with
  | nil => rfl
  | cons ev rest ih => rw [List.foldl_cons, ih, applyEvent_b]
@[simp] theorem deliver_b : s.deliver.b = s.b := by
  unfold deliver; split
  · rfl
  · rw [foldl_applyEvent_b]
theorem foldl_applyEvent_c (evs : List PlatformEvent) : (evs.foldl applyEvent s).c = s.c := by
  induction evs generalizing s with
  | nil => rfl
  | cons ev rest ih => rw [List.foldl_cons, ih, applyEvent_c]
@[simp] theorem deliver_c : s.deliver.c = s.c := by
  unfold deliver; split
  · rfl
  · rw [foldl_applyEvent_c]
theorem foldl_applyEvent_d (evs : List PlatformEvent) : (evs.foldl applyEvent s).d = s.d := by
  induction evs generalizing s with
  | nil => rfl
  | cons ev rest ih => rw [List.foldl_cons, ih, applyEvent_d]
@[simp] theorem deliver_d : s.deliver.d = s.d := by
  unfold deliver; split
  · rfl
  · rw [foldl_applyEvent_d]
theorem foldl_applyEvent_e (evs : List PlatformEvent) : (evs.foldl applyEvent s).e = s.e := by
  induction evs generalizing s with
  | nil => rfl
  | cons ev rest ih => rw [List.foldl_cons, ih, applyEvent_e]
@[simp] theorem deliver_e : s.deliver.e = s.e := by
  unfold deliver; split
  · rfl
  · rw [foldl_applyEvent_e]
theorem foldl_applyEvent_h (evs : List PlatformEvent) : (evs.foldl applyEvent s).h = s.h := by
  induction evs generalizing s with
  | nil => rfl
  | cons ev rest ih => rw [List.foldl_cons, ih, applyEvent_h]
@[simp] theorem deliver_h : s.deliver.h = s.h := by
  unfold deliver; split
  · rfl
  · rw [foldl_applyEvent_h]
theorem foldl_applyEvent_l (evs : List PlatformEvent) : (evs.foldl applyEvent s).l = s.l := by
  induction evs generalizing s with
  | nil => rfl
  | cons ev rest ih => rw [List.foldl_cons, ih, applyEvent_l]
@[simp] theorem deliver_l : s.deliver.l = s.l := by
  unfold deliver; split
  · rfl
  · rw [foldl_applyEvent_l]
theorem foldl_applyEvent_fZ (evs : List PlatformEvent) : (evs.foldl applyEvent s).fZ = s.fZ := by
  induction evs generalizing s with
  | nil => rfl
  | cons ev rest ih => rw [List.foldl_cons, ih, applyEvent_fZ]
@[simp] theorem deliver_fZ : s.deliver.fZ = s.fZ := by
  unfold deliver; split
  · rfl
  · rw [foldl_applyEvent_fZ]
theorem foldl_applyEvent_fN (evs : List PlatformEvent) : (evs.foldl applyEvent s).fN = s.fN := by
  induction evs generalizing s with
  | nil => rfl
  | cons ev rest ih => rw [List.foldl_cons, ih, applyEvent_fN]
@[simp] theorem deliver_fN : s.deliver.fN = s.fN := by
  unfold deliver; split
  · rfl
  · rw [foldl_applyEvent_fN]
theorem foldl_applyEvent_fH (evs : List PlatformEvent) : (evs.foldl applyEvent s).fH = s.fH := by
  induction evs generalizing s with
  | nil => rfl
  | cons ev rest ih => rw [List.foldl_cons, ih, applyEvent_fH]
@[simp] theorem deliver_fH : s.deliver.fH = s.fH := by
  unfold deliver; split
  · rfl
  · rw [foldl_applyEvent_fH]
theorem foldl_applyEvent_fC (evs : List PlatformEvent) : (evs.foldl applyEvent s).fC = s.fC := by
  induction evs generalizing s with
  | nil => rfl
  | cons ev rest ih => rw [List.foldl_cons, ih, applyEvent_fC]
@[simp] theorem deliver_fC : s.deliver.fC = s.fC := by
  unfold deliver; split
  · rfl
  · rw [foldl_applyEvent_fC]
theorem foldl_applyEvent_sp (evs : List PlatformEvent) : (evs.foldl applyEvent s).sp = s.sp := by
  induction evs generalizing s with
  | nil => rfl
  | cons ev rest ih => rw [List.foldl_cons, ih, applyEvent_sp]
@[simp] theorem deliver_sp : s.deliver.sp = s.sp := by
  unfold deliver; split
  · rfl
  · rw [foldl_applyEvent_sp]
theorem foldl_applyEvent_pc (evs : List PlatformEvent) : (evs.foldl applyEvent s).pc = s.pc := by
  induction evs generalizing s with
  | nil => rfl
  | cons ev rest ih => rw [List.foldl_cons, ih, applyEvent_pc]
@[simp] theorem deliver_pc : s.deliver.pc = s.pc := by
  unfold deliver; split
  · rfl
  · rw [foldl_applyEvent_pc]
theorem foldl_applyEvent_ime (evs : List PlatformEvent) : (evs.foldl applyEvent s).ime = s.ime := by
  induction evs generalizing s with
  | nil => rfl
  | cons ev rest ih => rw [List.foldl_cons, ih, applyEvent_ime]
@[simp] theorem deliver_ime : s.deliver.ime = s.ime := by
  unfold deliver; split
  · rfl
  · rw [foldl_applyEvent_ime]
theorem foldl_applyEvent_imePending (evs : List PlatformEvent) : (evs.foldl applyEvent s).imePending = s.imePending := by
  induction evs generalizing s with
  | nil => rfl
  | cons ev rest ih => rw [List.foldl_cons, ih, applyEvent_imePending]
@[simp] theorem deliver_imePending : s.deliver.imePending = s.imePending := by
  unfold deliver; split
  · rfl
  · rw [foldl_applyEvent_imePending]
theorem foldl_applyEvent_mode (evs : List PlatformEvent) : (evs.foldl applyEvent s).mode = s.mode := by
  induction evs generalizing s with
  | nil => rfl
  | cons ev rest ih => rw [List.foldl_cons, ih, applyEvent_mode]
@[simp] theorem deliver_mode : s.deliver.mode = s.mode := by
  unfold deliver; split
  · rfl
  · rw [foldl_applyEvent_mode]
theorem foldl_applyEvent_params (evs : List PlatformEvent) : (evs.foldl applyEvent s).params = s.params := by
  induction evs generalizing s with
  | nil => rfl
  | cons ev rest ih => rw [List.foldl_cons, ih, applyEvent_params]
@[simp] theorem deliver_params : s.deliver.params = s.params := by
  unfold deliver; split
  · rfl
  · rw [foldl_applyEvent_params]

/-- The platform keeps the canonical form of memory. -/
theorem deliver_wf (h : s.mem.wf = true) : s.deliver.mem.wf = true := by
  have fold : ∀ (evs : List PlatformEvent) (u : State), u.mem.wf = true → (evs.foldl applyEvent u).mem.wf = true := by
    intro evs
    induction evs with
    | nil => exact fun u hu => hu
    | cons ev rest ih =>
      intro u hu
      refine ih _ ?_
      cases ev with
      | store x v => exact Memory.wf_write _ _ _ x.isLt hu
      | requests vs => exact hu
      | stopWake on => exact hu
      | cell i v => exact hu
  unfold deliver; split
  · exact h
  · exact fold _ _ h

/-- The platform keeps the canonical form of its cells. -/
theorem deliver_cells (h : s.platform.cells.canonical = true) : s.deliver.platform.cells.canonical = true := by
  have fold : ∀ (evs : List PlatformEvent) (u : State), u.platform.cells.canonical = true →
      (evs.foldl applyEvent u).platform.cells.canonical = true := by
    intro evs
    induction evs with
    | nil => exact fun u hu => hu
    | cons ev rest ih =>
      intro u hu
      refine ih _ ?_
      cases ev with
      | cell i v => exact Memory.canonical_write _ _ _ hu
      | store x v => exact hu
      | requests vs => exact hu
      | stopWake on => exact hu
  unfold deliver; split
  · exact h
  · exact fold _ _ h

end Sys2Proof.Machine.State
end

