-- ==== Sys2Proof/Laws/Operands.lean ====
section
/-! SUPPORT. The operand forms: what reading an operand changes (at most the platform), what writing one
leaves alone, and the pairs. -/

namespace Sys2Proof.Machine.State

variable (s : State)

/-- Everything the read of an operand can do to the state: nothing, one more access on the bus, or new
platform cells. -/
theorem rd8_state (o : Opnd8) :
    (s.rd8 o).2 = s ∨ (∃ acc, (s.rd8 o).2 = s.logAccess acc) ∨ ∃ cs, (s.rd8 o).2 = s.setCells cs := by
  cases o <;> first | exact .inl rfl | exact s.memRead_state s.hl

/-- A register operand is read without any access. -/
theorem rd8_reg (o : Opnd8) (h : o ≠ .mhl) : (s.rd8 o).2 = s := by
  cases o <;> first | rfl | exact absurd rfl h

/-- The value of a register operand does not depend on memory. -/
theorem rd8_mhl : s.rd8 .mhl = s.memRead s.hl := rfl

@[simp] theorem rd8_a (o : Opnd8) : (s.rd8 o).2.a = s.a := by cases o <;> simp [rd8]
@[simp] theorem rd8_b (o : Opnd8) : (s.rd8 o).2.b = s.b := by cases o <;> simp [rd8]
@[simp] theorem rd8_c (o : Opnd8) : (s.rd8 o).2.c = s.c := by cases o <;> simp [rd8]
@[simp] theorem rd8_d (o : Opnd8) : (s.rd8 o).2.d = s.d := by cases o <;> simp [rd8]
@[simp] theorem rd8_e (o : Opnd8) : (s.rd8 o).2.e = s.e := by cases o <;> simp [rd8]
@[simp] theorem rd8_h (o : Opnd8) : (s.rd8 o).2.h = s.h := by cases o <;> simp [rd8]
@[simp] theorem rd8_l (o : Opnd8) : (s.rd8 o).2.l = s.l := by cases o <;> simp [rd8]
@[simp] theorem rd8_fZ (o : Opnd8) : (s.rd8 o).2.fZ = s.fZ := by cases o <;> simp [rd8]
@[simp] theorem rd8_fN (o : Opnd8) : (s.rd8 o).2.fN = s.fN := by cases o <;> simp [rd8]
@[simp] theorem rd8_fH (o : Opnd8) : (s.rd8 o).2.fH = s.fH := by cases o <;> simp [rd8]
@[simp] theorem rd8_fC (o : Opnd8) : (s.rd8 o).2.fC = s.fC := by cases o <;> simp [rd8]
@[simp] theorem rd8_sp (o : Opnd8) : (s.rd8 o).2.sp = s.sp := by cases o <;> simp [rd8]
@[simp] theorem rd8_pc (o : Opnd8) : (s.rd8 o).2.pc = s.pc := by cases o <;> simp [rd8]
@[simp] theorem rd8_ime (o : Opnd8) : (s.rd8 o).2.ime = s.ime := by cases o <;> simp [rd8]
@[simp] theorem rd8_imePending (o : Opnd8) : (s.rd8 o).2.imePending = s.imePending := by cases o <;> simp [rd8]
@[simp] theorem rd8_mode (o : Opnd8) : (s.rd8 o).2.mode = s.mode := by cases o <;> simp [rd8]
@[simp] theorem rd8_mem (o : Opnd8) : (s.rd8 o).2.mem = s.mem := by cases o <;> simp [rd8]
@[simp] theorem rd8_params (o : Opnd8) : (s.rd8 o).2.params = s.params := by cases o <;> simp [rd8]
@[simp] theorem rd8_peek (o : Opnd8) (y : Word) : (s.rd8 o).2.peek y = s.peek y := by simp [peek]
@[simp] theorem rd8_kindAt (o : Opnd8) (y : Word) : (s.rd8 o).2.kindAt y = s.kindAt y := by simp [kindAt]
@[simp] theorem rd8_hl (o : Opnd8) : (s.rd8 o).2.hl = s.hl := by simp [hl]
@[simp] theorem rd8_flags (o : Opnd8) : (s.rd8 o).2.flags = s.flags := by simp [flags]

@[simp] theorem wr8_fZ (o : Opnd8) (v : Byte) : (s.wr8 o v).fZ = s.fZ := by cases o <;> simp [wr8]
@[simp] theorem wr8_fN (o : Opnd8) (v : Byte) : (s.wr8 o v).fN = s.fN := by cases o <;> simp [wr8]
@[simp] theorem wr8_fH (o : Opnd8) (v : Byte) : (s.wr8 o v).fH = s.fH := by cases o <;> simp [wr8]
@[simp] theorem wr8_fC (o : Opnd8) (v : Byte) : (s.wr8 o v).fC = s.fC := by cases o <;> simp [wr8]
@[simp] theorem wr8_sp (o : Opnd8) (v : Byte) : (s.wr8 o v).sp = s.sp := by cases o <;> simp [wr8]
@[simp] theorem wr8_pc (o : Opnd8) (v : Byte) : (s.wr8 o v).pc = s.pc := by cases o <;> simp [wr8]
@[simp] theorem wr8_ime (o : Opnd8) (v : Byte) : (s.wr8 o v).ime = s.ime := by cases o <;> simp [wr8]
@[simp] theorem wr8_imePending (o : Opnd8) (v : Byte) : (s.wr8 o v).imePending = s.imePending := by cases o <;> simp [wr8]
@[simp] theorem wr8_mode (o : Opnd8) (v : Byte) : (s.wr8 o v).mode = s.mode := by cases o <;> simp [wr8]
@[simp] theorem wr8_params (o : Opnd8) (v : Byte) : (s.wr8 o v).params = s.params := by cases o <;> simp [wr8]
@[simp] theorem wr8_kindAt (o : Opnd8) (v : Byte) (y : Word) : (s.wr8 o v).kindAt y = s.kindAt y := by simp [kindAt]
@[simp] theorem wr8_flags (o : Opnd8) (v : Byte) : (s.wr8 o v).flags = s.flags := by simp [flags]

/-- Writing a register operand touches no memory and no device. -/
theorem wr8_reg (o : Opnd8) (v : Byte) (h : o ≠ .mhl) :
    (s.wr8 o v).mem = s.mem ∧ (s.wr8 o v).platform = s.platform ∧ ((s.wr8 o v).rd8 o).1 = v := by
  cases o <;> first | exact ⟨rfl, rfl, rfl⟩ | exact absurd rfl h

/-- Writing one operand leaves every other register as it is. -/
theorem wr8_other (o o' : Opnd8) (v : Byte) (h : o' ≠ o) (hm : o' ≠ .mhl) : ((s.wr8 o v).rd8 o').1 = (s.rd8 o').1 := by
  cases o <;> cases o' <;> first | rfl | exact absurd rfl h | exact absurd rfl hm | simp [wr8, rd8]

/-- Writing `(HL)` is the one store through the map. -/
theorem wr8_mhl (v : Byte) : s.wr8 .mhl v = s.memWrite s.hl v := rfl

theorem wr8_wf (o : Opnd8) (v : Byte) (h : s.mem.wf = true) : (s.wr8 o v).mem.wf = true := by
  cases o <;> first | exact h | exact s.memWrite_wf _ _ h

/-! ## Bytes of a word -/

theorem joinBytes_toNat (x y : Byte) : (joinBytes x y).toNat = x.toNat * 256 + y.toNat := by
  have h := BitVec.toNat_append x y
  rw [← Nat.shiftLeft_add_eq_or_of_lt y.isLt, Nat.shiftLeft_eq] at h
  exact h

@[simp] theorem loByte_toNat (v : Word) : (loByte v).toNat = v.toNat % 256 := by simp [loByte]

@[simp] theorem hiByte_toNat (v : Word) : (hiByte v).toNat = v.toNat / 256 := by
  have := v.isLt
  simp [hiByte, Nat.shiftRight_eq_div_pow]; omega

@[simp] theorem hiByte_joinBytes (x y : Byte) : hiByte (joinBytes x y) = x := by
  have := y.isLt
  apply BitVec.eq_of_toNat_eq; rw [hiByte_toNat, joinBytes_toNat]; omega

@[simp] theorem loByte_joinBytes (x y : Byte) : loByte (joinBytes x y) = y := by
  have := y.isLt
  apply BitVec.eq_of_toNat_eq; rw [loByte_toNat, joinBytes_toNat]; omega

@[simp] theorem joinBytes_hi_lo (v : Word) : joinBytes (hiByte v) (loByte v) = v := by
  apply BitVec.eq_of_toNat_eq; rw [joinBytes_toNat, hiByte_toNat, loByte_toNat]; omega

/-! ## Pairs -/

@[simp] theorem setBC_bc (v : Word) : (s.setBC v).bc = v := joinBytes_hi_lo v
@[simp] theorem setDE_de (v : Word) : (s.setDE v).de = v := joinBytes_hi_lo v
@[simp] theorem setHL_hl (v : Word) : (s.setHL v).hl = v := joinBytes_hi_lo v

/-- The pair written reads as the value. -/
@[simp] theorem setPair_getPair (p : Pair) (v : Word) : (s.setPair p v).getPair p = v := by
  cases p <;> first | rfl | exact joinBytes_hi_lo v

/-- The other pairs are unchanged. -/
theorem setPair_other (p q : Pair) (v : Word) (h : q ≠ p) : (s.setPair p v).getPair q = s.getPair q := by
  cases p <;> cases q <;> first | rfl | exact absurd rfl h

@[simp] theorem setPair_a (p : Pair) (v : Word) : (s.setPair p v).a = s.a := by cases p <;> rfl
@[simp] theorem setPair_fZ (p : Pair) (v : Word) : (s.setPair p v).fZ = s.fZ := by cases p <;> rfl
@[simp] theorem setPair_fN (p : Pair) (v : Word) : (s.setPair p v).fN = s.fN := by cases p <;> rfl
@[simp] theorem setPair_fH (p : Pair) (v : Word) : (s.setPair p v).fH = s.fH := by cases p <;> rfl
@[simp] theorem setPair_fC (p : Pair) (v : Word) : (s.setPair p v).fC = s.fC := by cases p <;> rfl
@[simp] theorem setPair_pc (p : Pair) (v : Word) : (s.setPair p v).pc = s.pc := by cases p <;> rfl
@[simp] theorem setPair_ime (p : Pair) (v : Word) : (s.setPair p v).ime = s.ime := by cases p <;> rfl
@[simp] theorem setPair_imePending (p : Pair) (v : Word) : (s.setPair p v).imePending = s.imePending := by cases p <;> rfl
@[simp] theorem setPair_mode (p : Pair) (v : Word) : (s.setPair p v).mode = s.mode := by cases p <;> rfl
@[simp] theorem setPair_mem (p : Pair) (v : Word) : (s.setPair p v).mem = s.mem := by cases p <;> rfl
@[simp] theorem setPair_platform (p : Pair) (v : Word) : (s.setPair p v).platform = s.platform := by cases p <;> rfl
@[simp] theorem setPair_params (p : Pair) (v : Word) : (s.setPair p v).params = s.params := by cases p <;> rfl
@[simp] theorem setPair_peek (p : Pair) (v : Word) (y : Word) : (s.setPair p v).peek y = s.peek y := by simp [peek]

@[simp] theorem setStackPair_sp (p : StackPair) (v : Word) : (s.setStackPair p v).sp = s.sp := by cases p <;> rfl
@[simp] theorem setStackPair_pc (p : StackPair) (v : Word) : (s.setStackPair p v).pc = s.pc := by cases p <;> rfl
@[simp] theorem setStackPair_ime (p : StackPair) (v : Word) : (s.setStackPair p v).ime = s.ime := by cases p <;> rfl
@[simp] theorem setStackPair_imePending (p : StackPair) (v : Word) : (s.setStackPair p v).imePending = s.imePending := by cases p <;> rfl
@[simp] theorem setStackPair_mode (p : StackPair) (v : Word) : (s.setStackPair p v).mode = s.mode := by cases p <;> rfl
@[simp] theorem setStackPair_mem (p : StackPair) (v : Word) : (s.setStackPair p v).mem = s.mem := by cases p <;> rfl
@[simp] theorem setStackPair_platform (p : StackPair) (v : Word) : (s.setStackPair p v).platform = s.platform := by cases p <;> rfl
@[simp] theorem setStackPair_params (p : StackPair) (v : Word) : (s.setStackPair p v).params = s.params := by cases p <;> rfl

end Sys2Proof.Machine.State
end

