-- ==== Sys2Proof/Laws/Forms.lean ====
section
/-! SUPPORT. Which shared operation each form of the grids runs: one equation per form function of the
decoder, so that a proof about a form does not split into its opcodes. -/

namespace Sys2Proof.Machine

theorem exec_ofLd (x y : Opnd8) (h : x ≠ .mhl ∨ y ≠ .mhl) (s : State) : exec (.ofLd x y) s = .next (s.load8 x y) := by
  cases x <;> cases y <;> first | rfl | (rcases h with h | h <;> exact absurd rfl h)

@[simp] theorem exec_ofLdImm (x : Opnd8) (n : Byte) (s : State) : exec (.ofLdImm x n) s = .next (s.loadImm8 x n) := by
  cases x <;> rfl

@[simp] theorem exec_ofAlu (op : AluOp) (y : Opnd8) (s : State) : exec (.ofAlu op y) s = .next (s.alu op y) := by
  cases op <;> cases y <;> rfl

@[simp] theorem exec_ofAluImm (op : AluOp) (n : Byte) (s : State) : exec (.ofAluImm op n) s = .next (s.aluImm op n) := by
  cases op <;> rfl

@[simp] theorem exec_ofInc (x : Opnd8) (s : State) : exec (.ofInc x) s = .next (s.inc8 x) := by
  cases x <;> rfl

@[simp] theorem exec_ofDec (x : Opnd8) (s : State) : exec (.ofDec x) s = .next (s.dec8 x) := by
  cases x <;> rfl

@[simp] theorem exec_ofLdPair (p : Pair) (nn : Word) (s : State) : exec (.ofLdPair p nn) s = .next (s.loadPair p nn) := by
  cases p <;> rfl

@[simp] theorem exec_ofAddHl (p : Pair) (s : State) : exec (.ofAddHl p) s = .next (s.addHl p) := by
  cases p <;> rfl

@[simp] theorem exec_ofIncPair (p : Pair) (s : State) : exec (.ofIncPair p) s = .next (s.incPair p) := by
  cases p <;> rfl

@[simp] theorem exec_ofDecPair (p : Pair) (s : State) : exec (.ofDecPair p) s = .next (s.decPair p) := by
  cases p <;> rfl

@[simp] theorem exec_ofPush (p : StackPair) (s : State) : exec (.ofPush p) s = .next (s.push p) := by
  cases p <;> rfl

@[simp] theorem exec_ofPop (p : StackPair) (s : State) : exec (.ofPop p) s = .next (s.pop p) := by
  cases p <;> rfl

@[simp] theorem exec_ofRotA (op : RotAOp) (s : State) : exec (.ofRotA op) s = .next (s.rotateA op) := by
  cases op <;> rfl

@[simp] theorem exec_ofJr (cc : Cond) (e8 : Byte) (s : State) : exec (.ofJr cc e8) s = .next (s.jumpRelIf cc e8) := by
  cases cc <;> rfl

@[simp] theorem exec_ofJp (cc : Cond) (nn : Word) (s : State) : exec (.ofJp cc nn) s = .next (s.jumpIf cc nn) := by
  cases cc <;> rfl

@[simp] theorem exec_ofCall (cc : Cond) (nn : Word) (s : State) : exec (.ofCall cc nn) s = .next (s.callIf cc nn) := by
  cases cc <;> rfl

@[simp] theorem exec_ofRet (cc : Cond) (s : State) : exec (.ofRet cc) s = .next (s.retIf cc) := by
  cases cc <;> rfl

@[simp] theorem exec_ofShift (op : ShiftOp) (o : Opnd8) (s : State) : exec (.ofShift op o) s = .next (s.shift8 op o) := by
  cases op <;> cases o <;> rfl

@[simp] theorem exec_ofBit (k : Fin 8) (o : Opnd8) (s : State) : exec (.ofBit k o) s = .next (s.testBit k o) := by
  obtain ⟨k, hk⟩ := k
  cases o <;> rcases k with _ | _ | _ | _ | _ | _ | _ | _ | k <;> first | rfl | omega

@[simp] theorem exec_ofRes (k : Fin 8) (o : Opnd8) (s : State) : exec (.ofRes k o) s = .next (s.resetBit k o) := by
  obtain ⟨k, hk⟩ := k
  cases o <;> rcases k with _ | _ | _ | _ | _ | _ | _ | _ | k <;> first | rfl | omega

@[simp] theorem exec_ofSet (k : Fin 8) (o : Opnd8) (s : State) : exec (.ofSet k o) s = .next (s.setBit8 k o) := by
  obtain ⟨k, hk⟩ := k
  cases o <;> rcases k with _ | _ | _ | _ | _ | _ | _ | _ | k <;> first | rfl | omega

@[simp] theorem exec_ofRst (k : Fin 8) (s : State) :
    exec (.ofRst k) s = .next (s.call (BitVec.ofNat 16 (8 * k.val)) 1) := by
  obtain ⟨k, hk⟩ := k
  rcases k with _ | _ | _ | _ | _ | _ | _ | _ | k <;> first | rfl | omega

end Sys2Proof.Machine
end

