-- ==== Sys2Proof/Laws/Meanings.lean ====
section
/-! SUPPORT. What each shared operation of the meanings does to `pc`, and that none touches the interrupt
state, the mode or the configuration, nor breaks the canonical form of memory. -/

namespace Sys2Proof.Machine.State

variable (s : State)

@[simp] theorem aluWith_peek (op : AluOp) (v : Byte) (y : Word) : (s.aluWith op v).peek y = s.peek y := rfl
@[simp] theorem aluWith_sp (op : AluOp) (v : Byte) : (s.aluWith op v).sp = s.sp := rfl
@[simp] theorem aluWith_pc (op : AluOp) (v : Byte) : (s.aluWith op v).pc = s.pc := rfl
@[simp] theorem aluWith_ime (op : AluOp) (v : Byte) : (s.aluWith op v).ime = s.ime := rfl
@[simp] theorem aluWith_imePending (op : AluOp) (v : Byte) : (s.aluWith op v).imePending = s.imePending := rfl
@[simp] theorem aluWith_mode (op : AluOp) (v : Byte) : (s.aluWith op v).mode = s.mode := rfl
@[simp] theorem aluWith_mem (op : AluOp) (v : Byte) : (s.aluWith op v).mem = s.mem := rfl
@[simp] theorem aluWith_platform (op : AluOp) (v : Byte) : (s.aluWith op v).platform = s.platform := rfl
@[simp] theorem aluWith_params (op : AluOp) (v : Byte) : (s.aluWith op v).params = s.params := rfl
@[simp] theorem ret_pc : s.ret.pc = s.pop16.1 := rfl
@[simp] theorem push16_wf (v : Word) (h : s.mem.wf = true) : (s.push16 v).mem.wf = true :=
  memWrite_wf _ _ _ (memWrite_wf _ _ _ h)

@[simp] theorem load8_ime (x y : Opnd8) : (s.load8 x y).ime = s.ime := by simp [load8]
@[simp] theorem load8_imePending (x y : Opnd8) : (s.load8 x y).imePending = s.imePending := by simp [load8]
@[simp] theorem load8_mode (x y : Opnd8) : (s.load8 x y).mode = s.mode := by simp [load8]
@[simp] theorem load8_params (x y : Opnd8) : (s.load8 x y).params = s.params := by simp [load8]
@[simp] theorem load8_fZ (x y : Opnd8) : (s.load8 x y).fZ = s.fZ := by simp [load8]
@[simp] theorem load8_fN (x y : Opnd8) : (s.load8 x y).fN = s.fN := by simp [load8]
@[simp] theorem load8_fH (x y : Opnd8) : (s.load8 x y).fH = s.fH := by simp [load8]
@[simp] theorem load8_fC (x y : Opnd8) : (s.load8 x y).fC = s.fC := by simp [load8]
@[simp] theorem load8_pc (x y : Opnd8) : (s.load8 x y).pc = s.pc + 1 := by simp [load8]
@[simp] theorem load8_wf (x y : Opnd8) (h : s.mem.wf = true) : (s.load8 x y).mem.wf = true := wr8_wf _ _ _ (by simpa using h)

@[simp] theorem loadImm8_ime (x : Opnd8) (n : Byte) : (s.loadImm8 x n).ime = s.ime := by simp [loadImm8]
@[simp] theorem loadImm8_imePending (x : Opnd8) (n : Byte) : (s.loadImm8 x n).imePending = s.imePending := by simp [loadImm8]
@[simp] theorem loadImm8_mode (x : Opnd8) (n : Byte) : (s.loadImm8 x n).mode = s.mode := by simp [loadImm8]
@[simp] theorem loadImm8_params (x : Opnd8) (n : Byte) : (s.loadImm8 x n).params = s.params := by simp [loadImm8]
@[simp] theorem loadImm8_fZ (x : Opnd8) (n : Byte) : (s.loadImm8 x n).fZ = s.fZ := by simp [loadImm8]
@[simp] theorem loadImm8_fN (x : Opnd8) (n : Byte) : (s.loadImm8 x n).fN = s.fN := by simp [loadImm8]
@[simp] theorem loadImm8_fH (x : Opnd8) (n : Byte) : (s.loadImm8 x n).fH = s.fH := by simp [loadImm8]
@[simp] theorem loadImm8_fC (x : Opnd8) (n : Byte) : (s.loadImm8 x n).fC = s.fC := by simp [loadImm8]
@[simp] theorem loadImm8_pc (x : Opnd8) (n : Byte) : (s.loadImm8 x n).pc = s.pc + 2 := by simp [loadImm8]
@[simp] theorem loadImm8_wf (x : Opnd8) (n : Byte) (h : s.mem.wf = true) : (s.loadImm8 x n).mem.wf = true := wr8_wf _ _ _ h

@[simp] theorem loadA_ime (x len : Word) : (s.loadA x len).ime = s.ime := by simp [loadA]
@[simp] theorem loadA_imePending (x len : Word) : (s.loadA x len).imePending = s.imePending := by simp [loadA]
@[simp] theorem loadA_mode (x len : Word) : (s.loadA x len).mode = s.mode := by simp [loadA]
@[simp] theorem loadA_params (x len : Word) : (s.loadA x len).params = s.params := by simp [loadA]
@[simp] theorem loadA_fZ (x len : Word) : (s.loadA x len).fZ = s.fZ := by simp [loadA]
@[simp] theorem loadA_fN (x len : Word) : (s.loadA x len).fN = s.fN := by simp [loadA]
@[simp] theorem loadA_fH (x len : Word) : (s.loadA x len).fH = s.fH := by simp [loadA]
@[simp] theorem loadA_fC (x len : Word) : (s.loadA x len).fC = s.fC := by simp [loadA]
@[simp] theorem loadA_pc (x len : Word) : (s.loadA x len).pc = s.pc + len := by simp [loadA]
@[simp] theorem loadA_wf (x len : Word) (h : s.mem.wf = true) : (s.loadA x len).mem.wf = true := by simpa [loadA] using h

@[simp] theorem storeA_ime (x len : Word) : (s.storeA x len).ime = s.ime := by simp [storeA]
@[simp] theorem storeA_imePending (x len : Word) : (s.storeA x len).imePending = s.imePending := by simp [storeA]
@[simp] theorem storeA_mode (x len : Word) : (s.storeA x len).mode = s.mode := by simp [storeA]
@[simp] theorem storeA_params (x len : Word) : (s.storeA x len).params = s.params := by simp [storeA]
@[simp] theorem storeA_fZ (x len : Word) : (s.storeA x len).fZ = s.fZ := by simp [storeA]
@[simp] theorem storeA_fN (x len : Word) : (s.storeA x len).fN = s.fN := by simp [storeA]
@[simp] theorem storeA_fH (x len : Word) : (s.storeA x len).fH = s.fH := by simp [storeA]
@[simp] theorem storeA_fC (x len : Word) : (s.storeA x len).fC = s.fC := by simp [storeA]
@[simp] theorem storeA_pc (x len : Word) : (s.storeA x len).pc = s.pc + len := by simp [storeA]
@[simp] theorem storeA_wf (x len : Word) (h : s.mem.wf = true) : (s.storeA x len).mem.wf = true := memWrite_wf _ _ _ h

@[simp] theorem loadAStep_ime (k : Word) : (s.loadAStep k).ime = s.ime := by simp [loadAStep]
@[simp] theorem loadAStep_imePending (k : Word) : (s.loadAStep k).imePending = s.imePending := by simp [loadAStep]
@[simp] theorem loadAStep_mode (k : Word) : (s.loadAStep k).mode = s.mode := by simp [loadAStep]
@[simp] theorem loadAStep_params (k : Word) : (s.loadAStep k).params = s.params := by simp [loadAStep]
@[simp] theorem loadAStep_fZ (k : Word) : (s.loadAStep k).fZ = s.fZ := by simp [loadAStep]
@[simp] theorem loadAStep_fN (k : Word) : (s.loadAStep k).fN = s.fN := by simp [loadAStep]
@[simp] theorem loadAStep_fH (k : Word) : (s.loadAStep k).fH = s.fH := by simp [loadAStep]
@[simp] theorem loadAStep_fC (k : Word) : (s.loadAStep k).fC = s.fC := by simp [loadAStep]
@[simp] theorem loadAStep_pc (k : Word) : (s.loadAStep k).pc = s.pc + 1 := by simp [loadAStep]
@[simp] theorem loadAStep_wf (k : Word) (h : s.mem.wf = true) : (s.loadAStep k).mem.wf = true := by simpa [loadAStep] using h

@[simp] theorem storeAStep_ime (k : Word) : (s.storeAStep k).ime = s.ime := by simp [storeAStep]
@[simp] theorem storeAStep_imePending (k : Word) : (s.storeAStep k).imePending = s.imePending := by simp [storeAStep]
@[simp] theorem storeAStep_mode (k : Word) : (s.storeAStep k).mode = s.mode := by simp [storeAStep]
@[simp] theorem storeAStep_params (k : Word) : (s.storeAStep k).params = s.params := by simp [storeAStep]
@[simp] theorem storeAStep_fZ (k : Word) : (s.storeAStep k).fZ = s.fZ := by simp [storeAStep]
@[simp] theorem storeAStep_fN (k : Word) : (s.storeAStep k).fN = s.fN := by simp [storeAStep]
@[simp] theorem storeAStep_fH (k : Word) : (s.storeAStep k).fH = s.fH := by simp [storeAStep]
@[simp] theorem storeAStep_fC (k : Word) : (s.storeAStep k).fC = s.fC := by simp [storeAStep]
@[simp] theorem storeAStep_pc (k : Word) : (s.storeAStep k).pc = s.pc + 1 := by simp [storeAStep]
@[simp] theorem storeAStep_wf (k : Word) (h : s.mem.wf = true) : (s.storeAStep k).mem.wf = true := memWrite_wf _ _ _ h

@[simp] theorem loadPair_ime (p : Pair) (nn : Word) : (s.loadPair p nn).ime = s.ime := by simp [loadPair]
@[simp] theorem loadPair_imePending (p : Pair) (nn : Word) : (s.loadPair p nn).imePending = s.imePending := by simp [loadPair]
@[simp] theorem loadPair_mode (p : Pair) (nn : Word) : (s.loadPair p nn).mode = s.mode := by simp [loadPair]
@[simp] theorem loadPair_params (p : Pair) (nn : Word) : (s.loadPair p nn).params = s.params := by simp [loadPair]
@[simp] theorem loadPair_fZ (p : Pair) (nn : Word) : (s.loadPair p nn).fZ = s.fZ := by simp [loadPair]
@[simp] theorem loadPair_fN (p : Pair) (nn : Word) : (s.loadPair p nn).fN = s.fN := by simp [loadPair]
@[simp] theorem loadPair_fH (p : Pair) (nn : Word) : (s.loadPair p nn).fH = s.fH := by simp [loadPair]
@[simp] theorem loadPair_fC (p : Pair) (nn : Word) : (s.loadPair p nn).fC = s.fC := by simp [loadPair]
@[simp] theorem loadPair_pc (p : Pair) (nn : Word) : (s.loadPair p nn).pc = s.pc + 3 := by simp [loadPair]
@[simp] theorem loadPair_wf (p : Pair) (nn : Word) (h : s.mem.wf = true) : (s.loadPair p nn).mem.wf = true := by simpa [loadPair] using h

@[simp] theorem loadHlSp_ime (e8 : Byte) : (s.loadHlSp e8).ime = s.ime := by simp [loadHlSp]
@[simp] theorem loadHlSp_imePending (e8 : Byte) : (s.loadHlSp e8).imePending = s.imePending := by simp [loadHlSp]
@[simp] theorem loadHlSp_mode (e8 : Byte) : (s.loadHlSp e8).mode = s.mode := by simp [loadHlSp]
@[simp] theorem loadHlSp_params (e8 : Byte) : (s.loadHlSp e8).params = s.params := by simp [loadHlSp]
@[simp] theorem loadHlSp_fZ (e8 : Byte) : (s.loadHlSp e8).fZ = false := rfl
@[simp] theorem loadHlSp_fN (e8 : Byte) : (s.loadHlSp e8).fN = false := rfl
@[simp] theorem loadHlSp_pc (e8 : Byte) : (s.loadHlSp e8).pc = s.pc + 2 := by simp [loadHlSp]
@[simp] theorem loadHlSp_wf (e8 : Byte) (h : s.mem.wf = true) : (s.loadHlSp e8).mem.wf = true := by simpa [loadHlSp] using h

@[simp] theorem storeSP_ime (nn : Word) : (s.storeSP nn).ime = s.ime := by simp [storeSP]
@[simp] theorem storeSP_imePending (nn : Word) : (s.storeSP nn).imePending = s.imePending := by simp [storeSP]
@[simp] theorem storeSP_mode (nn : Word) : (s.storeSP nn).mode = s.mode := by simp [storeSP]
@[simp] theorem storeSP_params (nn : Word) : (s.storeSP nn).params = s.params := by simp [storeSP]
@[simp] theorem storeSP_fZ (nn : Word) : (s.storeSP nn).fZ = s.fZ := by simp [storeSP]
@[simp] theorem storeSP_fN (nn : Word) : (s.storeSP nn).fN = s.fN := by simp [storeSP]
@[simp] theorem storeSP_fH (nn : Word) : (s.storeSP nn).fH = s.fH := by simp [storeSP]
@[simp] theorem storeSP_fC (nn : Word) : (s.storeSP nn).fC = s.fC := by simp [storeSP]
@[simp] theorem storeSP_pc (nn : Word) : (s.storeSP nn).pc = s.pc + 3 := by simp [storeSP]
@[simp] theorem storeSP_wf (nn : Word) (h : s.mem.wf = true) : (s.storeSP nn).mem.wf = true := memWrite_wf _ _ _ (memWrite_wf _ _ _ h)

@[simp] theorem push_ime (p : StackPair) : (s.push p).ime = s.ime := by simp [push]
@[simp] theorem push_imePending (p : StackPair) : (s.push p).imePending = s.imePending := by simp [push]
@[simp] theorem push_mode (p : StackPair) : (s.push p).mode = s.mode := by simp [push]
@[simp] theorem push_params (p : StackPair) : (s.push p).params = s.params := by simp [push]
@[simp] theorem push_fZ (p : StackPair) : (s.push p).fZ = s.fZ := by simp [push]
@[simp] theorem push_fN (p : StackPair) : (s.push p).fN = s.fN := by simp [push]
@[simp] theorem push_fH (p : StackPair) : (s.push p).fH = s.fH := by simp [push]
@[simp] theorem push_fC (p : StackPair) : (s.push p).fC = s.fC := by simp [push]
@[simp] theorem push_pc (p : StackPair) : (s.push p).pc = s.pc + 1 := by simp [push]
@[simp] theorem push_wf (p : StackPair) (h : s.mem.wf = true) : (s.push p).mem.wf = true := push16_wf _ _ h

@[simp] theorem pop_ime (p : StackPair) : (s.pop p).ime = s.ime := by simp [pop]
@[simp] theorem pop_imePending (p : StackPair) : (s.pop p).imePending = s.imePending := by simp [pop]
@[simp] theorem pop_mode (p : StackPair) : (s.pop p).mode = s.mode := by simp [pop]
@[simp] theorem pop_params (p : StackPair) : (s.pop p).params = s.params := by simp [pop]
@[simp] theorem pop_pc (p : StackPair) : (s.pop p).pc = s.pc + 1 := by simp [pop]
@[simp] theorem pop_wf (p : StackPair) (h : s.mem.wf = true) : (s.pop p).mem.wf = true := by simpa [pop] using h

@[simp] theorem alu_ime (op : AluOp) (o : Opnd8) : (s.alu op o).ime = s.ime := by simp [alu]
@[simp] theorem alu_imePending (op : AluOp) (o : Opnd8) : (s.alu op o).imePending = s.imePending := by simp [alu]
@[simp] theorem alu_mode (op : AluOp) (o : Opnd8) : (s.alu op o).mode = s.mode := by simp [alu]
@[simp] theorem alu_params (op : AluOp) (o : Opnd8) : (s.alu op o).params = s.params := by simp [alu]
@[simp] theorem alu_pc (op : AluOp) (o : Opnd8) : (s.alu op o).pc = s.pc + 1 := by simp [alu]
@[simp] theorem alu_wf (op : AluOp) (o : Opnd8) (h : s.mem.wf = true) : (s.alu op o).mem.wf = true := by simpa [alu] using h

@[simp] theorem aluImm_ime (op : AluOp) (n : Byte) : (s.aluImm op n).ime = s.ime := by simp [aluImm]
@[simp] theorem aluImm_imePending (op : AluOp) (n : Byte) : (s.aluImm op n).imePending = s.imePending := by simp [aluImm]
@[simp] theorem aluImm_mode (op : AluOp) (n : Byte) : (s.aluImm op n).mode = s.mode := by simp [aluImm]
@[simp] theorem aluImm_params (op : AluOp) (n : Byte) : (s.aluImm op n).params = s.params := by simp [aluImm]
@[simp] theorem aluImm_pc (op : AluOp) (n : Byte) : (s.aluImm op n).pc = s.pc + 2 := by simp [aluImm]
@[simp] theorem aluImm_wf (op : AluOp) (n : Byte) (h : s.mem.wf = true) : (s.aluImm op n).mem.wf = true := by simpa [aluImm] using h

@[simp] theorem inc8_ime (o : Opnd8) : (s.inc8 o).ime = s.ime := by simp [inc8]
@[simp] theorem inc8_imePending (o : Opnd8) : (s.inc8 o).imePending = s.imePending := by simp [inc8]
@[simp] theorem inc8_mode (o : Opnd8) : (s.inc8 o).mode = s.mode := by simp [inc8]
@[simp] theorem inc8_params (o : Opnd8) : (s.inc8 o).params = s.params := by simp [inc8]
@[simp] theorem inc8_fN (o : Opnd8) : (s.inc8 o).fN = false := rfl
@[simp] theorem inc8_fC (o : Opnd8) : (s.inc8 o).fC = s.fC := by simp [inc8, incResult]
@[simp] theorem inc8_pc (o : Opnd8) : (s.inc8 o).pc = s.pc + 1 := by simp [inc8]
@[simp] theorem inc8_wf (o : Opnd8) (h : s.mem.wf = true) : (s.inc8 o).mem.wf = true := wr8_wf _ _ _ (by simpa using h)

@[simp] theorem dec8_ime (o : Opnd8) : (s.dec8 o).ime = s.ime := by simp [dec8]
@[simp] theorem dec8_imePending (o : Opnd8) : (s.dec8 o).imePending = s.imePending := by simp [dec8]
@[simp] theorem dec8_mode (o : Opnd8) : (s.dec8 o).mode = s.mode := by simp [dec8]
@[simp] theorem dec8_params (o : Opnd8) : (s.dec8 o).params = s.params := by simp [dec8]
@[simp] theorem dec8_fN (o : Opnd8) : (s.dec8 o).fN = true := rfl
@[simp] theorem dec8_fC (o : Opnd8) : (s.dec8 o).fC = s.fC := by simp [dec8, decResult]
@[simp] theorem dec8_pc (o : Opnd8) : (s.dec8 o).pc = s.pc + 1 := by simp [dec8]
@[simp] theorem dec8_wf (o : Opnd8) (h : s.mem.wf = true) : (s.dec8 o).mem.wf = true := wr8_wf _ _ _ (by simpa using h)

@[simp] theorem addHl_ime (p : Pair) : (s.addHl p).ime = s.ime := by simp [addHl]
@[simp] theorem addHl_imePending (p : Pair) : (s.addHl p).imePending = s.imePending := by simp [addHl]
@[simp] theorem addHl_mode (p : Pair) : (s.addHl p).mode = s.mode := by simp [addHl]
@[simp] theorem addHl_params (p : Pair) : (s.addHl p).params = s.params := by simp [addHl]
@[simp] theorem addHl_fZ (p : Pair) : (s.addHl p).fZ = s.fZ := rfl
@[simp] theorem addHl_fN (p : Pair) : (s.addHl p).fN = false := rfl
@[simp] theorem addHl_pc (p : Pair) : (s.addHl p).pc = s.pc + 1 := by simp [addHl]
@[simp] theorem addHl_wf (p : Pair) (h : s.mem.wf = true) : (s.addHl p).mem.wf = true := by simpa [addHl] using h

@[simp] theorem addSp_ime (e8 : Byte) : (s.addSp e8).ime = s.ime := by simp [addSp]
@[simp] theorem addSp_imePending (e8 : Byte) : (s.addSp e8).imePending = s.imePending := by simp [addSp]
@[simp] theorem addSp_mode (e8 : Byte) : (s.addSp e8).mode = s.mode := by simp [addSp]
@[simp] theorem addSp_params (e8 : Byte) : (s.addSp e8).params = s.params := by simp [addSp]
@[simp] theorem addSp_fZ (e8 : Byte) : (s.addSp e8).fZ = false := rfl
@[simp] theorem addSp_fN (e8 : Byte) : (s.addSp e8).fN = false := rfl
@[simp] theorem addSp_pc (e8 : Byte) : (s.addSp e8).pc = s.pc + 2 := by simp [addSp]
@[simp] theorem addSp_wf (e8 : Byte) (h : s.mem.wf = true) : (s.addSp e8).mem.wf = true := by simpa [addSp] using h

@[simp] theorem incPair_ime (p : Pair) : (s.incPair p).ime = s.ime := by simp [incPair]
@[simp] theorem incPair_imePending (p : Pair) : (s.incPair p).imePending = s.imePending := by simp [incPair]
@[simp] theorem incPair_mode (p : Pair) : (s.incPair p).mode = s.mode := by simp [incPair]
@[simp] theorem incPair_params (p : Pair) : (s.incPair p).params = s.params := by simp [incPair]
@[simp] theorem incPair_fZ (p : Pair) : (s.incPair p).fZ = s.fZ := by simp [incPair]
@[simp] theorem incPair_fN (p : Pair) : (s.incPair p).fN = s.fN := by simp [incPair]
@[simp] theorem incPair_fH (p : Pair) : (s.incPair p).fH = s.fH := by simp [incPair]
@[simp] theorem incPair_fC (p : Pair) : (s.incPair p).fC = s.fC := by simp [incPair]
@[simp] theorem incPair_pc (p : Pair) : (s.incPair p).pc = s.pc + 1 := by simp [incPair]
@[simp] theorem incPair_wf (p : Pair) (h : s.mem.wf = true) : (s.incPair p).mem.wf = true := by simpa [incPair] using h

@[simp] theorem decPair_ime (p : Pair) : (s.decPair p).ime = s.ime := by simp [decPair]
@[simp] theorem decPair_imePending (p : Pair) : (s.decPair p).imePending = s.imePending := by simp [decPair]
@[simp] theorem decPair_mode (p : Pair) : (s.decPair p).mode = s.mode := by simp [decPair]
@[simp] theorem decPair_params (p : Pair) : (s.decPair p).params = s.params := by simp [decPair]
@[simp] theorem decPair_fZ (p : Pair) : (s.decPair p).fZ = s.fZ := by simp [decPair]
@[simp] theorem decPair_fN (p : Pair) : (s.decPair p).fN = s.fN := by simp [decPair]
@[simp] theorem decPair_fH (p : Pair) : (s.decPair p).fH = s.fH := by simp [decPair]
@[simp] theorem decPair_fC (p : Pair) : (s.decPair p).fC = s.fC := by simp [decPair]
@[simp] theorem decPair_pc (p : Pair) : (s.decPair p).pc = s.pc + 1 := by simp [decPair]
@[simp] theorem decPair_wf (p : Pair) (h : s.mem.wf = true) : (s.decPair p).mem.wf = true := by simpa [decPair] using h

@[simp] theorem shift8_ime (op : ShiftOp) (o : Opnd8) : (s.shift8 op o).ime = s.ime := by simp [shift8]
@[simp] theorem shift8_imePending (op : ShiftOp) (o : Opnd8) : (s.shift8 op o).imePending = s.imePending := by simp [shift8]
@[simp] theorem shift8_mode (op : ShiftOp) (o : Opnd8) : (s.shift8 op o).mode = s.mode := by simp [shift8]
@[simp] theorem shift8_params (op : ShiftOp) (o : Opnd8) : (s.shift8 op o).params = s.params := by simp [shift8]
@[simp] theorem shift8_fN (op : ShiftOp) (o : Opnd8) : (s.shift8 op o).fN = false := rfl
@[simp] theorem shift8_fH (op : ShiftOp) (o : Opnd8) : (s.shift8 op o).fH = false := rfl
@[simp] theorem shift8_pc (op : ShiftOp) (o : Opnd8) : (s.shift8 op o).pc = s.pc + 2 := by simp [shift8]
@[simp] theorem shift8_wf (op : ShiftOp) (o : Opnd8) (h : s.mem.wf = true) : (s.shift8 op o).mem.wf = true := wr8_wf _ _ _ (by simpa using h)

@[simp] theorem rotateA_ime (op : RotAOp) : (s.rotateA op).ime = s.ime := by simp [rotateA]
@[simp] theorem rotateA_imePending (op : RotAOp) : (s.rotateA op).imePending = s.imePending := by simp [rotateA]
@[simp] theorem rotateA_mode (op : RotAOp) : (s.rotateA op).mode = s.mode := by simp [rotateA]
@[simp] theorem rotateA_params (op : RotAOp) : (s.rotateA op).params = s.params := by simp [rotateA]
@[simp] theorem rotateA_fN (op : RotAOp) : (s.rotateA op).fN = false := rfl
@[simp] theorem rotateA_fH (op : RotAOp) : (s.rotateA op).fH = false := rfl
@[simp] theorem rotateA_pc (op : RotAOp) : (s.rotateA op).pc = s.pc + 1 := by simp [rotateA]
@[simp] theorem rotateA_wf (op : RotAOp) (h : s.mem.wf = true) : (s.rotateA op).mem.wf = true := by simpa [rotateA] using h

@[simp] theorem decimalAdjust_ime : (s.decimalAdjust).ime = s.ime := by simp [decimalAdjust]
@[simp] theorem decimalAdjust_imePending : (s.decimalAdjust).imePending = s.imePending := by simp [decimalAdjust]
@[simp] theorem decimalAdjust_mode : (s.decimalAdjust).mode = s.mode := by simp [decimalAdjust]
@[simp] theorem decimalAdjust_params : (s.decimalAdjust).params = s.params := by simp [decimalAdjust]
@[simp] theorem decimalAdjust_fN : (s.decimalAdjust).fN = s.fN := rfl
@[simp] theorem decimalAdjust_fH : (s.decimalAdjust).fH = false := rfl
@[simp] theorem decimalAdjust_pc : (s.decimalAdjust).pc = s.pc + 1 := by simp [decimalAdjust]
@[simp] theorem decimalAdjust_wf (h : s.mem.wf = true) : (s.decimalAdjust).mem.wf = true := by simpa [decimalAdjust] using h

@[simp] theorem complementA_ime : (s.complementA).ime = s.ime := by simp [complementA]
@[simp] theorem complementA_imePending : (s.complementA).imePending = s.imePending := by simp [complementA]
@[simp] theorem complementA_mode : (s.complementA).mode = s.mode := by simp [complementA]
@[simp] theorem complementA_params : (s.complementA).params = s.params := by simp [complementA]
@[simp] theorem complementA_fZ : (s.complementA).fZ = s.fZ := rfl
@[simp] theorem complementA_fN : (s.complementA).fN = true := rfl
@[simp] theorem complementA_fH : (s.complementA).fH = true := rfl
@[simp] theorem complementA_fC : (s.complementA).fC = s.fC := rfl
@[simp] theorem complementA_pc : (s.complementA).pc = s.pc + 1 := by simp [complementA]
@[simp] theorem complementA_wf (h : s.mem.wf = true) : (s.complementA).mem.wf = true := by simpa [complementA] using h

@[simp] theorem complementCarry_ime : (s.complementCarry).ime = s.ime := by simp [complementCarry]
@[simp] theorem complementCarry_imePending : (s.complementCarry).imePending = s.imePending := by simp [complementCarry]
@[simp] theorem complementCarry_mode : (s.complementCarry).mode = s.mode := by simp [complementCarry]
@[simp] theorem complementCarry_params : (s.complementCarry).params = s.params := by simp [complementCarry]
@[simp] theorem complementCarry_fZ : (s.complementCarry).fZ = s.fZ := rfl
@[simp] theorem complementCarry_fN : (s.complementCarry).fN = false := rfl
@[simp] theorem complementCarry_fH : (s.complementCarry).fH = false := rfl
@[simp] theorem complementCarry_fC : (s.complementCarry).fC = !s.fC := rfl
@[simp] theorem complementCarry_pc : (s.complementCarry).pc = s.pc + 1 := by simp [complementCarry]
@[simp] theorem complementCarry_wf (h : s.mem.wf = true) : (s.complementCarry).mem.wf = true := by simpa [complementCarry] using h

@[simp] theorem setCarry_ime : (s.setCarry).ime = s.ime := by simp [setCarry]
@[simp] theorem setCarry_imePending : (s.setCarry).imePending = s.imePending := by simp [setCarry]
@[simp] theorem setCarry_mode : (s.setCarry).mode = s.mode := by simp [setCarry]
@[simp] theorem setCarry_params : (s.setCarry).params = s.params := by simp [setCarry]
@[simp] theorem setCarry_fZ : (s.setCarry).fZ = s.fZ := rfl
@[simp] theorem setCarry_fN : (s.setCarry).fN = false := rfl
@[simp] theorem setCarry_fH : (s.setCarry).fH = false := rfl
@[simp] theorem setCarry_fC : (s.setCarry).fC = true := rfl
@[simp] theorem setCarry_pc : (s.setCarry).pc = s.pc + 1 := by simp [setCarry]
@[simp] theorem setCarry_wf (h : s.mem.wf = true) : (s.setCarry).mem.wf = true := by simpa [setCarry] using h

@[simp] theorem testBit_ime (k : Fin 8) (o : Opnd8) : (s.testBit k o).ime = s.ime := by simp [testBit]
@[simp] theorem testBit_imePending (k : Fin 8) (o : Opnd8) : (s.testBit k o).imePending = s.imePending := by simp [testBit]
@[simp] theorem testBit_mode (k : Fin 8) (o : Opnd8) : (s.testBit k o).mode = s.mode := by simp [testBit]
@[simp] theorem testBit_params (k : Fin 8) (o : Opnd8) : (s.testBit k o).params = s.params := by simp [testBit]
@[simp] theorem testBit_fN (k : Fin 8) (o : Opnd8) : (s.testBit k o).fN = false := rfl
@[simp] theorem testBit_fH (k : Fin 8) (o : Opnd8) : (s.testBit k o).fH = true := rfl
@[simp] theorem testBit_fC (k : Fin 8) (o : Opnd8) : (s.testBit k o).fC = s.fC := by simp [testBit, bitFlags]
@[simp] theorem testBit_pc (k : Fin 8) (o : Opnd8) : (s.testBit k o).pc = s.pc + 2 := by simp [testBit]
@[simp] theorem testBit_wf (k : Fin 8) (o : Opnd8) (h : s.mem.wf = true) : (s.testBit k o).mem.wf = true := by simpa [testBit] using h

@[simp] theorem setBit8_ime (k : Fin 8) (o : Opnd8) : (s.setBit8 k o).ime = s.ime := by simp [setBit8]
@[simp] theorem setBit8_imePending (k : Fin 8) (o : Opnd8) : (s.setBit8 k o).imePending = s.imePending := by simp [setBit8]
@[simp] theorem setBit8_mode (k : Fin 8) (o : Opnd8) : (s.setBit8 k o).mode = s.mode := by simp [setBit8]
@[simp] theorem setBit8_params (k : Fin 8) (o : Opnd8) : (s.setBit8 k o).params = s.params := by simp [setBit8]
@[simp] theorem setBit8_fZ (k : Fin 8) (o : Opnd8) : (s.setBit8 k o).fZ = s.fZ := by simp [setBit8]
@[simp] theorem setBit8_fN (k : Fin 8) (o : Opnd8) : (s.setBit8 k o).fN = s.fN := by simp [setBit8]
@[simp] theorem setBit8_fH (k : Fin 8) (o : Opnd8) : (s.setBit8 k o).fH = s.fH := by simp [setBit8]
@[simp] theorem setBit8_fC (k : Fin 8) (o : Opnd8) : (s.setBit8 k o).fC = s.fC := by simp [setBit8]
@[simp] theorem setBit8_pc (k : Fin 8) (o : Opnd8) : (s.setBit8 k o).pc = s.pc + 2 := by simp [setBit8]
@[simp] theorem setBit8_wf (k : Fin 8) (o : Opnd8) (h : s.mem.wf = true) : (s.setBit8 k o).mem.wf = true := wr8_wf _ _ _ (by simpa using h)

@[simp] theorem resetBit_ime (k : Fin 8) (o : Opnd8) : (s.resetBit k o).ime = s.ime := by simp [resetBit]
@[simp] theorem resetBit_imePending (k : Fin 8) (o : Opnd8) : (s.resetBit k o).imePending = s.imePending := by simp [resetBit]
@[simp] theorem resetBit_mode (k : Fin 8) (o : Opnd8) : (s.resetBit k o).mode = s.mode := by simp [resetBit]
@[simp] theorem resetBit_params (k : Fin 8) (o : Opnd8) : (s.resetBit k o).params = s.params := by simp [resetBit]
@[simp] theorem resetBit_fZ (k : Fin 8) (o : Opnd8) : (s.resetBit k o).fZ = s.fZ := by simp [resetBit]
@[simp] theorem resetBit_fN (k : Fin 8) (o : Opnd8) : (s.resetBit k o).fN = s.fN := by simp [resetBit]
@[simp] theorem resetBit_fH (k : Fin 8) (o : Opnd8) : (s.resetBit k o).fH = s.fH := by simp [resetBit]
@[simp] theorem resetBit_fC (k : Fin 8) (o : Opnd8) : (s.resetBit k o).fC = s.fC := by simp [resetBit]
@[simp] theorem resetBit_pc (k : Fin 8) (o : Opnd8) : (s.resetBit k o).pc = s.pc + 2 := by simp [resetBit]
@[simp] theorem resetBit_wf (k : Fin 8) (o : Opnd8) (h : s.mem.wf = true) : (s.resetBit k o).mem.wf = true := wr8_wf _ _ _ (by simpa using h)

@[simp] theorem jumpIf_ime (cc : Cond) (nn : Word) : (s.jumpIf cc nn).ime = s.ime := by unfold jumpIf; split <;> simp
@[simp] theorem jumpIf_imePending (cc : Cond) (nn : Word) : (s.jumpIf cc nn).imePending = s.imePending := by unfold jumpIf; split <;> simp
@[simp] theorem jumpIf_mode (cc : Cond) (nn : Word) : (s.jumpIf cc nn).mode = s.mode := by unfold jumpIf; split <;> simp
@[simp] theorem jumpIf_params (cc : Cond) (nn : Word) : (s.jumpIf cc nn).params = s.params := by unfold jumpIf; split <;> simp
@[simp] theorem jumpIf_fZ (cc : Cond) (nn : Word) : (s.jumpIf cc nn).fZ = s.fZ := by unfold jumpIf; split <;> simp
@[simp] theorem jumpIf_fN (cc : Cond) (nn : Word) : (s.jumpIf cc nn).fN = s.fN := by unfold jumpIf; split <;> simp
@[simp] theorem jumpIf_fH (cc : Cond) (nn : Word) : (s.jumpIf cc nn).fH = s.fH := by unfold jumpIf; split <;> simp
@[simp] theorem jumpIf_fC (cc : Cond) (nn : Word) : (s.jumpIf cc nn).fC = s.fC := by unfold jumpIf; split <;> simp
@[simp] theorem jumpIf_wf (cc : Cond) (nn : Word) (h : s.mem.wf = true) : (s.jumpIf cc nn).mem.wf = true := by
  unfold jumpIf; split <;> simp [h]

@[simp] theorem jumpRel_ime (e8 : Byte) : (s.jumpRel e8).ime = s.ime := by simp [jumpRel]
@[simp] theorem jumpRel_imePending (e8 : Byte) : (s.jumpRel e8).imePending = s.imePending := by simp [jumpRel]
@[simp] theorem jumpRel_mode (e8 : Byte) : (s.jumpRel e8).mode = s.mode := by simp [jumpRel]
@[simp] theorem jumpRel_params (e8 : Byte) : (s.jumpRel e8).params = s.params := by simp [jumpRel]
@[simp] theorem jumpRel_fZ (e8 : Byte) : (s.jumpRel e8).fZ = s.fZ := by simp [jumpRel]
@[simp] theorem jumpRel_fN (e8 : Byte) : (s.jumpRel e8).fN = s.fN := by simp [jumpRel]
@[simp] theorem jumpRel_fH (e8 : Byte) : (s.jumpRel e8).fH = s.fH := by simp [jumpRel]
@[simp] theorem jumpRel_fC (e8 : Byte) : (s.jumpRel e8).fC = s.fC := by simp [jumpRel]
@[simp] theorem jumpRel_wf (e8 : Byte) (h : s.mem.wf = true) : (s.jumpRel e8).mem.wf = true := by simpa [jumpRel] using h

@[simp] theorem jumpRelIf_ime (cc : Cond) (e8 : Byte) : (s.jumpRelIf cc e8).ime = s.ime := by unfold jumpRelIf; split <;> simp
@[simp] theorem jumpRelIf_imePending (cc : Cond) (e8 : Byte) : (s.jumpRelIf cc e8).imePending = s.imePending := by unfold jumpRelIf; split <;> simp
@[simp] theorem jumpRelIf_mode (cc : Cond) (e8 : Byte) : (s.jumpRelIf cc e8).mode = s.mode := by unfold jumpRelIf; split <;> simp
@[simp] theorem jumpRelIf_params (cc : Cond) (e8 : Byte) : (s.jumpRelIf cc e8).params = s.params := by unfold jumpRelIf; split <;> simp
@[simp] theorem jumpRelIf_fZ (cc : Cond) (e8 : Byte) : (s.jumpRelIf cc e8).fZ = s.fZ := by unfold jumpRelIf; split <;> simp
@[simp] theorem jumpRelIf_fN (cc : Cond) (e8 : Byte) : (s.jumpRelIf cc e8).fN = s.fN := by unfold jumpRelIf; split <;> simp
@[simp] theorem jumpRelIf_fH (cc : Cond) (e8 : Byte) : (s.jumpRelIf cc e8).fH = s.fH := by unfold jumpRelIf; split <;> simp
@[simp] theorem jumpRelIf_fC (cc : Cond) (e8 : Byte) : (s.jumpRelIf cc e8).fC = s.fC := by unfold jumpRelIf; split <;> simp
@[simp] theorem jumpRelIf_wf (cc : Cond) (e8 : Byte) (h : s.mem.wf = true) : (s.jumpRelIf cc e8).mem.wf = true := by
  unfold jumpRelIf; split <;> simp [h]

@[simp] theorem call_ime (x len : Word) : (s.call x len).ime = s.ime := by simp [call]
@[simp] theorem call_imePending (x len : Word) : (s.call x len).imePending = s.imePending := by simp [call]
@[simp] theorem call_mode (x len : Word) : (s.call x len).mode = s.mode := by simp [call]
@[simp] theorem call_params (x len : Word) : (s.call x len).params = s.params := by simp [call]
@[simp] theorem call_fZ (x len : Word) : (s.call x len).fZ = s.fZ := by simp [call]
@[simp] theorem call_fN (x len : Word) : (s.call x len).fN = s.fN := by simp [call]
@[simp] theorem call_fH (x len : Word) : (s.call x len).fH = s.fH := by simp [call]
@[simp] theorem call_fC (x len : Word) : (s.call x len).fC = s.fC := by simp [call]
@[simp] theorem call_wf (x len : Word) (h : s.mem.wf = true) : (s.call x len).mem.wf = true := push16_wf _ _ h

@[simp] theorem callIf_ime (cc : Cond) (nn : Word) : (s.callIf cc nn).ime = s.ime := by unfold callIf; split <;> simp
@[simp] theorem callIf_imePending (cc : Cond) (nn : Word) : (s.callIf cc nn).imePending = s.imePending := by unfold callIf; split <;> simp
@[simp] theorem callIf_mode (cc : Cond) (nn : Word) : (s.callIf cc nn).mode = s.mode := by unfold callIf; split <;> simp
@[simp] theorem callIf_params (cc : Cond) (nn : Word) : (s.callIf cc nn).params = s.params := by unfold callIf; split <;> simp
@[simp] theorem callIf_fZ (cc : Cond) (nn : Word) : (s.callIf cc nn).fZ = s.fZ := by unfold callIf; split <;> simp
@[simp] theorem callIf_fN (cc : Cond) (nn : Word) : (s.callIf cc nn).fN = s.fN := by unfold callIf; split <;> simp
@[simp] theorem callIf_fH (cc : Cond) (nn : Word) : (s.callIf cc nn).fH = s.fH := by unfold callIf; split <;> simp
@[simp] theorem callIf_fC (cc : Cond) (nn : Word) : (s.callIf cc nn).fC = s.fC := by unfold callIf; split <;> simp
@[simp] theorem callIf_wf (cc : Cond) (nn : Word) (h : s.mem.wf = true) : (s.callIf cc nn).mem.wf = true := by
  unfold callIf; split <;> simp [h]

@[simp] theorem ret_ime : (s.ret).ime = s.ime := by simp [ret]
@[simp] theorem ret_imePending : (s.ret).imePending = s.imePending := by simp [ret]
@[simp] theorem ret_mode : (s.ret).mode = s.mode := by simp [ret]
@[simp] theorem ret_params : (s.ret).params = s.params := by simp [ret]
@[simp] theorem ret_fZ : (s.ret).fZ = s.fZ := by simp [ret]
@[simp] theorem ret_fN : (s.ret).fN = s.fN := by simp [ret]
@[simp] theorem ret_fH : (s.ret).fH = s.fH := by simp [ret]
@[simp] theorem ret_fC : (s.ret).fC = s.fC := by simp [ret]
@[simp] theorem ret_wf (h : s.mem.wf = true) : (s.ret).mem.wf = true := by simpa [ret] using h

@[simp] theorem retIf_ime (cc : Cond) : (s.retIf cc).ime = s.ime := by unfold retIf; split <;> simp
@[simp] theorem retIf_imePending (cc : Cond) : (s.retIf cc).imePending = s.imePending := by unfold retIf; split <;> simp
@[simp] theorem retIf_mode (cc : Cond) : (s.retIf cc).mode = s.mode := by unfold retIf; split <;> simp
@[simp] theorem retIf_params (cc : Cond) : (s.retIf cc).params = s.params := by unfold retIf; split <;> simp
@[simp] theorem retIf_fZ (cc : Cond) : (s.retIf cc).fZ = s.fZ := by unfold retIf; split <;> simp
@[simp] theorem retIf_fN (cc : Cond) : (s.retIf cc).fN = s.fN := by unfold retIf; split <;> simp
@[simp] theorem retIf_fH (cc : Cond) : (s.retIf cc).fH = s.fH := by unfold retIf; split <;> simp
@[simp] theorem retIf_fC (cc : Cond) : (s.retIf cc).fC = s.fC := by unfold retIf; split <;> simp
@[simp] theorem retIf_wf (cc : Cond) (h : s.mem.wf = true) : (s.retIf cc).mem.wf = true := by
  unfold retIf; split <;> simp [h]

@[simp] theorem pop_fZ (p : StackPair) (h : p ≠ .af) : (s.pop p).fZ = s.fZ := by
  cases p <;> first | exact absurd rfl h | simp [pop, setStackPair]
@[simp] theorem pop_fN (p : StackPair) (h : p ≠ .af) : (s.pop p).fN = s.fN := by
  cases p <;> first | exact absurd rfl h | simp [pop, setStackPair]
@[simp] theorem pop_fH (p : StackPair) (h : p ≠ .af) : (s.pop p).fH = s.fH := by
  cases p <;> first | exact absurd rfl h | simp [pop, setStackPair]
@[simp] theorem pop_fC (p : StackPair) (h : p ≠ .af) : (s.pop p).fC = s.fC := by
  cases p <;> first | exact absurd rfl h | simp [pop, setStackPair]

/-- N after an ALU operation: set by SUB, SBC and CP. -/
theorem aluResult_n (op : AluOp) (a v : Byte) (c : Bool) :
    (aluResult op a v c).2.n = (decide (op = .sub) || decide (op = .sbc) || decide (op = .cp)) := by
  cases op <;> rfl

@[simp] theorem alu_fN (op : AluOp) (o : Opnd8) :
    (s.alu op o).fN = (decide (op = .sub) || decide (op = .sbc) || decide (op = .cp)) := aluResult_n ..
@[simp] theorem aluImm_fN (op : AluOp) (n : Byte) :
    (s.aluImm op n).fN = (decide (op = .sub) || decide (op = .sbc) || decide (op = .cp)) := aluResult_n ..

/-- H and C after AND, OR and XOR. -/
theorem aluResult_logic (op : AluOp) (a v : Byte) (c : Bool) (h : op = .and ∨ op = .or ∨ op = .xor) :
    (aluResult op a v c).2.h = decide (op = .and) ∧ (aluResult op a v c).2.c = false := by
  rcases h with rfl | rfl | rfl <;> exact ⟨rfl, rfl⟩

@[simp] theorem swap_fC (o : Opnd8) : (s.shift8 .swap o).fC = false := rfl

@[simp] theorem returnFromInterrupt_ime : s.returnFromInterrupt.ime = true := rfl
@[simp] theorem returnFromInterrupt_imePending : s.returnFromInterrupt.imePending = .none := rfl
@[simp] theorem returnFromInterrupt_mode : s.returnFromInterrupt.mode = s.mode := s.pop16_mode
@[simp] theorem returnFromInterrupt_params : s.returnFromInterrupt.params = s.params := s.pop16_params
@[simp] theorem returnFromInterrupt_mem : s.returnFromInterrupt.mem = s.mem := s.pop16_mem
@[simp] theorem returnFromInterrupt_fZ : s.returnFromInterrupt.fZ = s.fZ := s.pop16_fZ
@[simp] theorem returnFromInterrupt_fN : s.returnFromInterrupt.fN = s.fN := s.pop16_fN
@[simp] theorem returnFromInterrupt_fH : s.returnFromInterrupt.fH = s.fH := s.pop16_fH
@[simp] theorem returnFromInterrupt_fC : s.returnFromInterrupt.fC = s.fC := s.pop16_fC

/-- RETI is RET with IME set and a scheduled change cancelled. -/
theorem returnFromInterrupt_spec : s.returnFromInterrupt = { s.ret with ime := true, imePending := .none } := rfl

/-- DI: where IME and `ime_pending` go under either `DI_DELAY`. -/
theorem disableInterrupts_spec : s.disableInterrupts = (match s.params.diDelay with
    | .one => { s with pc := s.pc + 1, imePending := .disable }
    | .zero => { s with pc := s.pc + 1, ime := false, imePending := .none }) := by
  unfold disableInterrupts; cases s.params.diDelay <;> rfl

@[simp] theorem disableInterrupts_pc : s.disableInterrupts.pc = s.pc + 1 := by
  unfold disableInterrupts; split <;> rfl
@[simp] theorem disableInterrupts_mode : s.disableInterrupts.mode = s.mode := by
  unfold disableInterrupts; split <;> rfl
@[simp] theorem disableInterrupts_params : s.disableInterrupts.params = s.params := by
  unfold disableInterrupts; split <;> rfl
@[simp] theorem disableInterrupts_fZ : s.disableInterrupts.fZ = s.fZ := by
  unfold disableInterrupts; split <;> rfl
@[simp] theorem disableInterrupts_fN : s.disableInterrupts.fN = s.fN := by
  unfold disableInterrupts; split <;> rfl
@[simp] theorem disableInterrupts_fH : s.disableInterrupts.fH = s.fH := by
  unfold disableInterrupts; split <;> rfl
@[simp] theorem disableInterrupts_fC : s.disableInterrupts.fC = s.fC := by
  unfold disableInterrupts; split <;> rfl
@[simp] theorem disableInterrupts_mem : s.disableInterrupts.mem = s.mem := by
  unfold disableInterrupts; split <;> rfl

end Sys2Proof.Machine.State
end

