-- ==== Sys2Proof/Laws/Step.lean ====
section
/-! SUPPORT. What the parts of a step can do, said once: the platform's doings, a fetch, the completion
of a pending change of IME, and taking an interrupt. -/

namespace Sys2Proof.Machine.State

variable (s : State)

/-- All that the platform's doings before a step can change: memory and the platform itself. -/
theorem deliver_state : s.deliver = { s with mem := s.deliver.mem, platform := s.deliver.platform } := by
  have fold : ∀ (evs : List PlatformEvent) (u : State),
      evs.foldl applyEvent u = { u with mem := (evs.foldl applyEvent u).mem, platform := (evs.foldl applyEvent u).platform } := by
    intro evs
    induction evs with
    | nil => exact fun u => rfl
    | cons ev rest ih => intro u; rw [List.foldl_cons, ih]; cases ev <;> rfl
  unfold deliver; split
  · rfl
  · rw [fold]

/-- One entry of `arrivals` is used up by each step. -/
theorem deliver_arrivals : s.deliver.platform.arrivals = s.platform.arrivals.tail := by
  have fold : ∀ (evs : List PlatformEvent) (u : State), (evs.foldl applyEvent u).platform.arrivals = u.platform.arrivals := by
    intro evs
    induction evs with
    | nil => exact fun u => rfl
    | cons ev rest ih => intro u; rw [List.foldl_cons, ih]; cases ev <;> rfl
  unfold deliver; split
  · next h => rw [h]; rfl
  · next h => rw [fold, h]; rfl

@[simp] theorem fetchByte_pc (len k : Nat) : (s.fetchByte len k).2.pc = s.pc := by unfold fetchByte; split <;> simp
@[simp] theorem fetchByte_mem (len k : Nat) : (s.fetchByte len k).2.mem = s.mem := by unfold fetchByte; split <;> simp
@[simp] theorem fetchByte_params (len k : Nat) : (s.fetchByte len k).2.params = s.params := by unfold fetchByte; split <;> simp
@[simp] theorem fetchByte_ime (len k : Nat) : (s.fetchByte len k).2.ime = s.ime := by unfold fetchByte; split <;> simp
@[simp] theorem fetchByte_imePending (len k : Nat) : (s.fetchByte len k).2.imePending = s.imePending := by
  unfold fetchByte; split <;> simp
@[simp] theorem fetchByte_mode (len k : Nat) : (s.fetchByte len k).2.mode = s.mode := by unfold fetchByte; split <;> simp

/-- A byte beyond the instruction is not read. -/
theorem fetchByte_beyond (len k : Nat) (h : len ≤ k) : s.fetchByte len k = (0, s) := by
  simp [fetchByte, Nat.not_lt.mpr h]

/-- What a fetch that gives an instruction leaves as it was. -/
theorem fetch_frame (i : Instr) (t : State) (h : s.fetch = .instr i t) :
    t.pc = s.pc ∧ t.mem = s.mem ∧ t.params = s.params ∧ t.ime = s.ime ∧ t.imePending = s.imePending ∧ t.mode = s.mode := by
  unfold fetch at h
  simp only at h
  split at h
  · cases h; simp
  · cases h

/-- The completion of a pending change touches IME and `ime_pending` only. -/
theorem applyImePending_state :
    s.applyImePending = { s with ime := s.applyImePending.ime, imePending := .none } := by
  unfold applyImePending; split
  · next h => rw [← h]
  · rfl
  · rfl

@[simp] theorem applyImePending_mem : s.applyImePending.mem = s.mem := by unfold applyImePending; split <;> rfl
@[simp] theorem applyImePending_params : s.applyImePending.params = s.params := by unfold applyImePending; split <;> rfl
@[simp] theorem applyImePending_pc : s.applyImePending.pc = s.pc := by unfold applyImePending; split <;> rfl
@[simp] theorem applyImePending_mode : s.applyImePending.mode = s.mode := by unfold applyImePending; split <;> rfl

/-- Taking an interrupt: `push16` of pc on the state with IME clear, nothing scheduled and running, then the jump. -/
theorem takeInterrupt_spec (v : Word) :
    s.takeInterrupt v = (({ s with ime := false, imePending := .none, mode := .running } : State).push16 s.pc).jump v := rfl

@[simp] theorem takeInterrupt_pc (v : Word) : (s.takeInterrupt v).pc = v := rfl
@[simp] theorem takeInterrupt_sp (v : Word) : (s.takeInterrupt v).sp = s.sp - 2 := by simp [takeInterrupt]
@[simp] theorem takeInterrupt_ime (v : Word) : (s.takeInterrupt v).ime = false := by simp [takeInterrupt]
@[simp] theorem takeInterrupt_imePending (v : Word) : (s.takeInterrupt v).imePending = .none := by simp [takeInterrupt]
@[simp] theorem takeInterrupt_mode (v : Word) : (s.takeInterrupt v).mode = .running := by simp [takeInterrupt]
@[simp] theorem takeInterrupt_params (v : Word) : (s.takeInterrupt v).params = s.params := by simp [takeInterrupt]
theorem takeInterrupt_wf (v : Word) (h : s.mem.wf = true) : (s.takeInterrupt v).mem.wf = true :=
  memWrite_wf _ _ _ (memWrite_wf _ _ _ h)

/-- Selecting a request keeps the canonical form of memory and the configuration. -/
theorem intSelect_wf (r : Word × State) (h : s.intSelect = some r) :
    (s.mem.wf = true → r.2.mem.wf = true) ∧ r.2.params = s.params := by
  rcases s.intSelect_state r h with ⟨vs, e⟩ | ⟨v, e⟩ | ⟨view, ws, _, e⟩ <;> rw [e]
  · exact ⟨fun hm => hm, rfl⟩
  · exact ⟨fun hm => Memory.wf_write _ _ _ (BitVec.isLt _) hm, rfl⟩
  · exact ⟨fun hm => hm, rfl⟩

/-- Selecting a request keeps the canonical form of the platform cells. -/
theorem intSelect_cells (r : Word × State) (h : s.intSelect = some r) (hc : s.platform.cells.canonical = true) :
    r.2.platform.cells.canonical = true := by
  rcases s.intSelect_state r h with ⟨vs, e⟩ | ⟨v, e⟩ | ⟨view, ws, hv, e⟩ <;> rw [e]
  · exact hc
  · exact hc
  · exact writeCells_canonical view ws (hv ▸ hc)

/-- Taking an interrupt keeps the canonical form of the platform cells. -/
theorem takeInterrupt_cells (v : Word) (h : s.platform.cells.canonical = true) :
    (s.takeInterrupt v).platform.cells.canonical = true :=
  memWrite_cells _ _ _ (memWrite_cells _ _ _ h)

end Sys2Proof.Machine.State
end

