-- ==== Sys2Proof/Laws/Platform.lean ====
section
/-! SUPPORT. How instructions can change the platform: by their accesses only. One relation that every access
has and that composes, and one lemma per shared operation of the meanings. -/

namespace Sys2Proof.Machine

/-- `t` is `s` after some accesses, as far as the platform can tell: the parameters stay, of the platform only the
bus log and the cells change, the log is not shortened, the cells keep their canonical form, and where no
address has a given map they stay. -/
def AccessesOnly (s t : State) : Prop :=
  t.params = s.params ∧ (s.platform.cells.canonical = true → t.platform.cells.canonical = true) ∧
  t.platform = { s.platform with bus := t.platform.bus, cells := t.platform.cells } ∧ s.platform.bus <:+ t.platform.bus ∧
  ((∀ (x : Word) (m : Config.GivenMap), s.kindAt x ≠ .given m) → t.platform.cells = s.platform.cells)

theorem AccessesOnly.refl (s : State) : AccessesOnly s s := ⟨rfl, fun h => h, rfl, List.suffix_rfl, fun _ => rfl⟩

/-- What touches neither the platform nor the parameters makes no access. -/
theorem AccessesOnly.of_eq {s t : State} (hp : t.platform = s.platform) (hq : t.params = s.params) : AccessesOnly s t := by
  refine ⟨hq, ?_, ?_, ?_, ?_⟩ <;> rw [hp]
  · exact fun h => h
  · exact fun _ => rfl

theorem AccessesOnly.trans {s t u : State} (h1 : AccessesOnly s t) (h2 : AccessesOnly t u) : AccessesOnly s u := by
  obtain ⟨a1, b1, c1, d1, e1⟩ := h1
  obtain ⟨a2, b2, c2, d2, e2⟩ := h2
  refine ⟨a2.trans a1, fun h => b2 (b1 h), by rw [c2, c1], d1.trans d2, fun h => ?_⟩
  rw [e2 (by simpa [State.kindAt, a1] using h), e1 h]

/-- Accesses followed by what touches neither the platform nor the parameters. -/
theorem AccessesOnly.update {s t u : State} (h : AccessesOnly s t) (hp : u.platform = t.platform) (hq : u.params = t.params) :
    AccessesOnly s u :=
  h.trans (.of_eq hp hq)

namespace State

variable (s : State)

/-! ## Accesses -/

theorem memRead_accesses (x : Word) : AccessesOnly s (s.memRead x).2 :=
  ⟨s.memRead_params x, s.memRead_cells x, congrArg State.platform (s.memRead_frame x), s.memRead_bus x,
    fun h => s.memRead_cells_of_not_given x (h x)⟩

theorem memWrite_accesses (x : Word) (v : Byte) : AccessesOnly s (s.memWrite x v) :=
  ⟨s.memWrite_params x v, s.memWrite_cells x v, congrArg State.platform (s.memWrite_frame x v), s.memWrite_bus x v,
    fun h => s.memWrite_cells_of_not_given x v (h x)⟩

theorem rd8_accesses (o : Opnd8) : AccessesOnly s (s.rd8 o).2 := by
  cases o <;> first | exact .refl s | exact s.memRead_accesses _

theorem wr8_accesses (o : Opnd8) (v : Byte) : AccessesOnly s (s.wr8 o v) := by
  cases o <;> first | exact .of_eq rfl rfl | exact s.memWrite_accesses _ _

theorem push16_accesses (v : Word) : AccessesOnly s (s.push16 v) := by
  rw [push16_spec]
  exact ((s.memWrite_accesses _ _).trans (memWrite_accesses _ _ _)).update rfl rfl

theorem pop16_accesses : AccessesOnly s s.pop16.2 :=
  (((s.memRead_accesses s.sp).update (u := (s.memRead s.sp).2.setSP ((s.memRead s.sp).2.sp + 1)) rfl rfl).trans
    (memRead_accesses _ _)).update rfl rfl

theorem fetchByte_accesses (len k : Nat) : AccessesOnly s (s.fetchByte len k).2 := by
  unfold fetchByte; split
  · exact s.memRead_accesses _
  · exact .refl s

/-- A fetch makes accesses only. -/
theorem fetch_accesses (i : Instr) (t : State) (h : s.fetch = .instr i t) : AccessesOnly s t := by
  unfold fetch at h
  simp only at h
  split at h
  · cases h; exact ((s.memRead_accesses _).trans (fetchByte_accesses _ _ _)).trans (fetchByte_accesses _ _ _)
  · cases h

/-! ## The operations of the meanings -/

theorem advance_accesses {t : State} (len : Word) (h : AccessesOnly s t) : AccessesOnly s (t.advance len) := h.update rfl rfl
theorem jump_accesses {t : State} (x : Word) (h : AccessesOnly s t) : AccessesOnly s (t.jump x) := h.update rfl rfl
theorem enter_accesses {t : State} (m : Mode) (h : AccessesOnly s t) : AccessesOnly s (t.enter m) := h.update rfl rfl
theorem schedule_accesses {t : State} (p : ImePending) (h : AccessesOnly s t) : AccessesOnly s (t.schedule p) := h.update rfl rfl
theorem setSP_accesses (x : Word) : AccessesOnly s (s.setSP x) := .of_eq rfl rfl
theorem load8_accesses (x y : Opnd8) : AccessesOnly s (s.load8 x y) :=
  ((s.rd8_accesses y).trans (wr8_accesses _ x _)).update rfl rfl
theorem loadImm8_accesses (x : Opnd8) (n : Byte) : AccessesOnly s (s.loadImm8 x n) := (s.wr8_accesses x n).update rfl rfl
theorem loadA_accesses (x len : Word) : AccessesOnly s (s.loadA x len) := (s.memRead_accesses x).update rfl rfl
theorem storeA_accesses (x len : Word) : AccessesOnly s (s.storeA x len) := (s.memWrite_accesses x s.a).update rfl rfl
theorem loadAStep_accesses (x : Word) : AccessesOnly s (s.loadAStep x) := (s.memRead_accesses s.hl).update rfl rfl
theorem storeAStep_accesses (x : Word) : AccessesOnly s (s.storeAStep x) := (s.memWrite_accesses s.hl s.a).update rfl rfl
theorem loadPair_accesses (p : Pair) (v : Word) : AccessesOnly s (s.loadPair p v) :=
  .of_eq (by simp [loadPair]) (by simp [loadPair])
theorem loadHlSp_accesses (e8 : Byte) : AccessesOnly s (s.loadHlSp e8) := .of_eq rfl rfl
theorem storeSP_accesses (x : Word) : AccessesOnly s (s.storeSP x) :=
  ((s.memWrite_accesses _ _).trans (memWrite_accesses _ _ _)).update rfl rfl
theorem push_accesses (p : StackPair) : AccessesOnly s (s.push p) := (s.push16_accesses _).update rfl rfl
theorem pop_accesses (p : StackPair) : AccessesOnly s (s.pop p) :=
  s.pop16_accesses.update (by simp [State.pop]) (by simp [State.pop])
theorem alu_accesses (op : AluOp) (o : Opnd8) : AccessesOnly s (s.alu op o) := (s.rd8_accesses o).update rfl rfl
theorem aluImm_accesses (op : AluOp) (n : Byte) : AccessesOnly s (s.aluImm op n) := .of_eq rfl rfl
theorem inc8_accesses (o : Opnd8) : AccessesOnly s (s.inc8 o) := ((s.rd8_accesses o).trans (wr8_accesses _ _ _)).update rfl rfl
theorem dec8_accesses (o : Opnd8) : AccessesOnly s (s.dec8 o) := ((s.rd8_accesses o).trans (wr8_accesses _ _ _)).update rfl rfl
theorem addHl_accesses (p : Pair) : AccessesOnly s (s.addHl p) := .of_eq rfl rfl
theorem addSp_accesses (e8 : Byte) : AccessesOnly s (s.addSp e8) := .of_eq rfl rfl
theorem incPair_accesses (p : Pair) : AccessesOnly s (s.incPair p) := .of_eq (by simp [incPair]) (by simp [incPair])
theorem decPair_accesses (p : Pair) : AccessesOnly s (s.decPair p) := .of_eq (by simp [decPair]) (by simp [decPair])
theorem shift8_accesses (op : ShiftOp) (o : Opnd8) : AccessesOnly s (s.shift8 op o) :=
  ((s.rd8_accesses o).trans (wr8_accesses _ _ _)).update rfl rfl
theorem rotateA_accesses (op : RotAOp) : AccessesOnly s (s.rotateA op) := .of_eq rfl rfl
theorem decimalAdjust_accesses : AccessesOnly s s.decimalAdjust := .of_eq rfl rfl
theorem complementA_accesses : AccessesOnly s s.complementA := .of_eq rfl rfl
theorem complementCarry_accesses : AccessesOnly s s.complementCarry := .of_eq rfl rfl
theorem setCarry_accesses : AccessesOnly s s.setCarry := .of_eq rfl rfl
theorem disableInterrupts_accesses : AccessesOnly s s.disableInterrupts := by
  unfold disableInterrupts; split <;> exact .of_eq rfl rfl
theorem testBit_accesses (n : Fin 8) (o : Opnd8) : AccessesOnly s (s.testBit n o) := (s.rd8_accesses o).update rfl rfl
theorem setBit8_accesses (n : Fin 8) (o : Opnd8) : AccessesOnly s (s.setBit8 n o) :=
  ((s.rd8_accesses o).trans (wr8_accesses _ _ _)).update rfl rfl
theorem resetBit_accesses (n : Fin 8) (o : Opnd8) : AccessesOnly s (s.resetBit n o) :=
  ((s.rd8_accesses o).trans (wr8_accesses _ _ _)).update rfl rfl
theorem jumpIf_accesses (cc : Cond) (nn : Word) : AccessesOnly s (s.jumpIf cc nn) := by
  unfold jumpIf; split <;> exact .of_eq rfl rfl
theorem jumpRel_accesses (e8 : Byte) : AccessesOnly s (s.jumpRel e8) := .of_eq rfl rfl
theorem jumpRelIf_accesses (cc : Cond) (e8 : Byte) : AccessesOnly s (s.jumpRelIf cc e8) := by
  unfold jumpRelIf; split <;> exact .of_eq rfl rfl
theorem call_accesses (x len : Word) : AccessesOnly s (s.call x len) := (s.push16_accesses _).update rfl rfl
theorem callIf_accesses (cc : Cond) (nn : Word) : AccessesOnly s (s.callIf cc nn) := by
  unfold callIf; split
  · exact s.call_accesses _ _
  · exact .of_eq rfl rfl
theorem ret_accesses : AccessesOnly s s.ret := s.pop16_accesses.update rfl rfl
theorem retIf_accesses (cc : Cond) : AccessesOnly s (s.retIf cc) := by
  unfold retIf; split
  · exact s.ret_accesses
  · exact .of_eq rfl rfl
theorem returnFromInterrupt_accesses : AccessesOnly s s.returnFromInterrupt := s.pop16_accesses.update rfl rfl

/-! ## A device of which nothing is known -/

/-- A device window stands for any `MemMap` at all (R37): let `read` and `write` be functions of any `PlatformState` and
`now` the state they have left after the accesses logged. If the device answers as `read` does, then the
model's accesses are theirs. -/
theorem device_is_any_memMap {P : Type} (read : P → Word → Byte × P) (write : P → Word → Byte → P)
    (now : List Config.BusAccess → P)
    (hr : ∀ h x v, now (.read x v :: h) = (read (now h) x).2)
    (hw : ∀ h x v, now (.write x v :: h) = write (now h) x v)
    (answers : ∀ h x, Config.deviceByte h x = (read (now h) x).1) (x : Word) (v : Byte) (hk : s.kindAt x = .device) :
    (s.memRead x).1 = (read (now s.platform.bus) x).1 ∧
    now (s.memRead x).2.platform.bus = (read (now s.platform.bus) x).2 ∧
    now (s.memWrite x v).platform.bus = write (now s.platform.bus) x v := by
  rw [memRead_device s x hk, memWrite_device s x v hk]
  exact ⟨answers _ _, hr _ _ _, hw _ _ _⟩

end State

end Sys2Proof.Machine
end

