-- ==== Sys2Proof/Tests/Slice0.lean ====
section
/-! SUPPORT. The model's own tests: the checks of well-formedness refuse ill-formed terms; every word
of the grids R67 and R68 decodes to the instruction the grid names; vectors of 95_test_vectors.md, one step each, by their
names there; and for every statement with hypotheses a state that meets them. -/

namespace Sys2Proof.Tests

open Sys2Proof.Machine

/-! ## Well-formedness -/

theorem test_window_backwards : ({ first := 0x8000, last := 0x7FFF, kind := .rom } : Config.Window).wf = false := by decide
theorem test_window_beyond_memory : ({ first := 0xFF00, last := 0x10000, kind := .device } : Config.Window).wf = false := by decide
theorem test_windows_overlap :
    ({ Config.Params.default with memMap := [⟨0, 0x7FFF, .rom⟩, ⟨0x7FFF, 0x8000, .device⟩] } : Config.Params).wf = false := by decide
theorem test_map_with_bad_window :
    ({ Config.Params.default with memMap := [⟨0, 0x7FFF, .rom⟩, ⟨0xFFFF, 0xFF00, .ram⟩] } : Config.Params).wf = false := by decide
theorem test_map_accepted :
    ({ Config.Params.default with memMap := [⟨0, 0x7FFF, .rom⟩, ⟨0x8000, 0xFFFF, .device⟩] } : Config.Params).wf = true := by decide
/-- Memory out of order, with a listed 0x00, and beyond the address space. -/
theorem test_memory_refused :
    Memory.wf [(2, 1), (1, 1)] = false ∧ Memory.wf [(1, 1), (1, 2)] = false ∧ Memory.wf [(1, 0)] = false ∧ Memory.wf [(65536, 1)] = false := by decide

/-! ## Decoding -/

/-- One family, one word, its fields bit by bit (R51 to R55, R59, R60, R62; 42_alu8.md R120). -/
theorem test_decode_bits :
    decode [0b01_111_000] = .instr .ld_a_b [] ∧ decode [0b00_001_110, 0xFE] = .instr (.ld_c_n 0xFE) [] ∧
    decode [0b01_100_110] = .instr .ld_h_mhl [] ∧ decode [0b00_10_0001, 0x34, 0x12] = .instr (.ld_hl_nn 0x1234) [] ∧
    decode [0b11_11_0101] = .instr .push_af [] ∧ decode [0b11_01_0001] = .instr .pop_de [] ∧
    decode [0b10_011_101] = .instr .sbc_a_l [] ∧ decode [0b11_111_110, 0x40] = .instr (.cp_n 0x40) [] ∧
    decode [0b00_110_100] = .instr .inc_mhl [] ∧ decode [0b00_01_1001] = .instr .add_hl_de [] ∧
    decode [0b00_11_1011] = .instr .dec_sp [] ∧ decode [0b00_100_111] = .instr .daa [] ∧
    decode [0b00_010_111] = .instr .rla [] ∧ decode [0xCB, 0b00_101_110] = .instr .sra_mhl [] ∧
    decode [0xCB, 0b01_111_100] = .instr .bit_7_h [] ∧ decode [0xCB, 0b10_100_001] = .instr .res_4_c [] ∧
    decode [0xCB, 0b11_011_110] = .instr .set_3_mhl [] ∧ decode [0b11_011_010, 0x34, 0x12] = .instr (.jp_c_nn 0x1234) [] ∧
    decode [0b00_110_000, 0xFE] = .instr (.jr_nc_e8 0xFE) [] ∧ decode [0b11_000_100, 0x00, 0x30] = .instr (.call_nz_nn 0x3000) [] ∧
    decode [0b11_101_111] = .instr .rst_28 [] ∧ decode [0b11_001_000] = .instr .ret_z [] := by decide

/-- The words of one row of R67, each followed by `34 12`: entry `k` says what byte 0 `base + k` is, `none` that
it is refused. An instruction's bytes are also what the encoder writes. -/
def rowDecodes (base : Nat) (row : List (Option Instr)) : Bool :=
  row.zipIdx.all fun x =>
    let bytes : List Byte := [BitVec.ofNat 8 (base + x.2), 0x34, 0x12]
    match x.1 with
    | some i => decide (decode bytes = .instr i (bytes.drop i.length)) && decide (encode i = bytes.take i.length)
    | none => decide (decode bytes = .rejected (.illegalOpcode (BitVec.ofNat 8 (base + x.2))))

/-- The words of one row of R68, after the prefix. -/
def cbRowDecodes (base : Nat) (row : List Instr) : Bool :=
  row.zipIdx.all fun x =>
    let bytes : List Byte := [0xCB, BitVec.ofNat 8 (base + x.2)]
    decide (decode bytes = .instr x.1 []) && decide (encode x.1 = bytes)

theorem test_row_0x : rowDecodes 0x00
    [some .nop, some (.ld_bc_nn 0x1234), some .ld_mbc_a, some .inc_bc, some .inc_b, some .dec_b, some (.ld_b_n 0x34), some .rlca,
     some (.ld_mnn_sp 0x1234), some .add_hl_bc, some .ld_a_mbc, some .dec_bc, some .inc_c, some .dec_c, some (.ld_c_n 0x34), some .rrca] = true := by decide
theorem test_row_1x : rowDecodes 0x10
    [none, some (.ld_de_nn 0x1234), some .ld_mde_a, some .inc_de, some .inc_d, some .dec_d, some (.ld_d_n 0x34), some .rla,
     some (.jr_e8 0x34), some .add_hl_de, some .ld_a_mde, some .dec_de, some .inc_e, some .dec_e, some (.ld_e_n 0x34), some .rra] = true := by decide  -- `10 34` is refused (R62), `10 00` is below
theorem test_row_2x : rowDecodes 0x20
    [some (.jr_nz_e8 0x34), some (.ld_hl_nn 0x1234), some .ldi_mhl_a, some .inc_hl, some .inc_h, some .dec_h, some (.ld_h_n 0x34), some .daa,
     some (.jr_z_e8 0x34), some .add_hl_hl, some .ldi_a_mhl, some .dec_hl, some .inc_l, some .dec_l, some (.ld_l_n 0x34), some .cpl] = true := by decide
theorem test_row_3x : rowDecodes 0x30
    [some (.jr_nc_e8 0x34), some (.ld_sp_nn 0x1234), some .ldd_mhl_a, some .inc_sp, some .inc_mhl, some .dec_mhl, some (.ld_mhl_n 0x34), some .scf,
     some (.jr_c_e8 0x34), some .add_hl_sp, some .ldd_a_mhl, some .dec_sp, some .inc_a, some .dec_a, some (.ld_a_n 0x34), some .ccf] = true := by decide
theorem test_row_4x : rowDecodes 0x40
    [some .ld_b_b, some .ld_b_c, some .ld_b_d, some .ld_b_e, some .ld_b_h, some .ld_b_l, some .ld_b_mhl, some .ld_b_a,
     some .ld_c_b, some .ld_c_c, some .ld_c_d, some .ld_c_e, some .ld_c_h, some .ld_c_l, some .ld_c_mhl, some .ld_c_a] = true := by decide
theorem test_row_5x : rowDecodes 0x50
    [some .ld_d_b, some .ld_d_c, some .ld_d_d, some .ld_d_e, some .ld_d_h, some .ld_d_l, some .ld_d_mhl, some .ld_d_a,
     some .ld_e_b, some .ld_e_c, some .ld_e_d, some .ld_e_e, some .ld_e_h, some .ld_e_l, some .ld_e_mhl, some .ld_e_a] = true := by decide
theorem test_row_6x : rowDecodes 0x60
    [some .ld_h_b, some .ld_h_c, some .ld_h_d, some .ld_h_e, some .ld_h_h, some .ld_h_l, some .ld_h_mhl, some .ld_h_a,
     some .ld_l_b, some .ld_l_c, some .ld_l_d, some .ld_l_e, some .ld_l_h, some .ld_l_l, some .ld_l_mhl, some .ld_l_a] = true := by decide
theorem test_row_7x : rowDecodes 0x70
    [some .ld_mhl_b, some .ld_mhl_c, some .ld_mhl_d, some .ld_mhl_e, some .ld_mhl_h, some .ld_mhl_l, some .halt, some .ld_mhl_a,
     some .ld_a_b, some .ld_a_c, some .ld_a_d, some .ld_a_e, some .ld_a_h, some .ld_a_l, some .ld_a_mhl, some .ld_a_a] = true := by decide
theorem test_row_8x : rowDecodes 0x80
    [some .add_a_b, some .add_a_c, some .add_a_d, some .add_a_e, some .add_a_h, some .add_a_l, some .add_a_mhl, some .add_a_a,
     some .adc_a_b, some .adc_a_c, some .adc_a_d, some .adc_a_e, some .adc_a_h, some .adc_a_l, some .adc_a_mhl, some .adc_a_a] = true := by decide
theorem test_row_9x : rowDecodes 0x90
    [some .sub_b, some .sub_c, some .sub_d, some .sub_e, some .sub_h, some .sub_l, some .sub_mhl, some .sub_a,
     some .sbc_a_b, some .sbc_a_c, some .sbc_a_d, some .sbc_a_e, some .sbc_a_h, some .sbc_a_l, some .sbc_a_mhl, some .sbc_a_a] = true := by decide
theorem test_row_Ax : rowDecodes 0xA0
    [some .and_b, some .and_c, some .and_d, some .and_e, some .and_h, some .and_l, some .and_mhl, some .and_a,
     some .xor_b, some .xor_c, some .xor_d, some .xor_e, some .xor_h, some .xor_l, some .xor_mhl, some .xor_a] = true := by decide
theorem test_row_Bx : rowDecodes 0xB0
    [some .or_b, some .or_c, some .or_d, some .or_e, some .or_h, some .or_l, some .or_mhl, some .or_a,
     some .cp_b, some .cp_c, some .cp_d, some .cp_e, some .cp_h, some .cp_l, some .cp_mhl, some .cp_a] = true := by decide
theorem test_row_Cx : rowDecodes 0xC0
    [some .ret_nz, some .pop_bc, some (.jp_nz_nn 0x1234), some (.jp_nn 0x1234), some (.call_nz_nn 0x1234), some .push_bc, some (.add_a_n 0x34), some .rst_00,
     some .ret_z, some .ret, some (.jp_z_nn 0x1234), some .swap_h, some (.call_z_nn 0x1234), some (.call_nn 0x1234), some (.adc_a_n 0x34), some .rst_08] = true := by decide
theorem test_row_Dx : rowDecodes 0xD0
    [some .ret_nc, some .pop_de, some (.jp_nc_nn 0x1234), none, some (.call_nc_nn 0x1234), some .push_de, some (.sub_n 0x34), some .rst_10,
     some .ret_c, some .reti, some (.jp_c_nn 0x1234), none, some (.call_c_nn 0x1234), none, some (.sbc_a_n 0x34), some .rst_18] = true := by decide
theorem test_row_Ex : rowDecodes 0xE0
    [some (.ldh_mn_a 0x34), some .pop_hl, some .ld_mc_a, none, none, some .push_hl, some (.and_n 0x34), some .rst_20,
     some (.add_sp_e8 0x34), some .jp_hl, some (.ld_mnn_a 0x1234), none, none, none, some (.xor_n 0x34), some .rst_28] = true := by decide
theorem test_row_Fx : rowDecodes 0xF0
    [some (.ldh_a_mn 0x34), some .pop_af, some .ld_a_mc, some .di, none, some .push_af, some (.or_n 0x34), some .rst_30,
     some (.ldhl_sp_e8 0x34), some .ld_sp_hl, some (.ld_a_mnn 0x1234), some .ei, none, none, some (.cp_n 0x34), some .rst_38] = true := by decide
theorem test_stop_words : decode [0x10, 0x00] = .instr .stop [] ∧ encode .stop = [0x10, 0x00] ∧ decode [0x10] = .rejected .truncated := by decide

theorem test_cb_row_0x : cbRowDecodes 0x00
    [.rlc_b, .rlc_c, .rlc_d, .rlc_e, .rlc_h, .rlc_l, .rlc_mhl, .rlc_a,
     .rrc_b, .rrc_c, .rrc_d, .rrc_e, .rrc_h, .rrc_l, .rrc_mhl, .rrc_a] = true := by decide
theorem test_cb_row_1x : cbRowDecodes 0x10
    [.rl_b, .rl_c, .rl_d, .rl_e, .rl_h, .rl_l, .rl_mhl, .rl_a,
     .rr_b, .rr_c, .rr_d, .rr_e, .rr_h, .rr_l, .rr_mhl, .rr_a] = true := by decide
theorem test_cb_row_2x : cbRowDecodes 0x20
    [.sla_b, .sla_c, .sla_d, .sla_e, .sla_h, .sla_l, .sla_mhl, .sla_a,
     .sra_b, .sra_c, .sra_d, .sra_e, .sra_h, .sra_l, .sra_mhl, .sra_a] = true := by decide
theorem test_cb_row_3x : cbRowDecodes 0x30
    [.swap_b, .swap_c, .swap_d, .swap_e, .swap_h, .swap_l, .swap_mhl, .swap_a,
     .srl_b, .srl_c, .srl_d, .srl_e, .srl_h, .srl_l, .srl_mhl, .srl_a] = true := by decide
theorem test_cb_row_4x : cbRowDecodes 0x40
    [.bit_0_b, .bit_0_c, .bit_0_d, .bit_0_e, .bit_0_h, .bit_0_l, .bit_0_mhl, .bit_0_a,
     .bit_1_b, .bit_1_c, .bit_1_d, .bit_1_e, .bit_1_h, .bit_1_l, .bit_1_mhl, .bit_1_a] = true := by decide
theorem test_cb_row_5x : cbRowDecodes 0x50
    [.bit_2_b, .bit_2_c, .bit_2_d, .bit_2_e, .bit_2_h, .bit_2_l, .bit_2_mhl, .bit_2_a,
     .bit_3_b, .bit_3_c, .bit_3_d, .bit_3_e, .bit_3_h, .bit_3_l, .bit_3_mhl, .bit_3_a] = true := by decide
theorem test_cb_row_6x : cbRowDecodes 0x60
    [.bit_4_b, .bit_4_c, .bit_4_d, .bit_4_e, .bit_4_h, .bit_4_l, .bit_4_mhl, .bit_4_a,
     .bit_5_b, .bit_5_c, .bit_5_d, .bit_5_e, .bit_5_h, .bit_5_l, .bit_5_mhl, .bit_5_a] = true := by decide
theorem test_cb_row_7x : cbRowDecodes 0x70
    [.bit_6_b, .bit_6_c, .bit_6_d, .bit_6_e, .bit_6_h, .bit_6_l, .bit_6_mhl, .bit_6_a,
     .bit_7_b, .bit_7_c, .bit_7_d, .bit_7_e, .bit_7_h, .bit_7_l, .bit_7_mhl, .bit_7_a] = true := by decide
theorem test_cb_row_8x : cbRowDecodes 0x80
    [.res_0_b, .res_0_c, .res_0_d, .res_0_e, .res_0_h, .res_0_l, .res_0_mhl, .res_0_a,
     .res_1_b, .res_1_c, .res_1_d, .res_1_e, .res_1_h, .res_1_l, .res_1_mhl, .res_1_a] = true := by decide
theorem test_cb_row_9x : cbRowDecodes 0x90
    [.res_2_b, .res_2_c, .res_2_d, .res_2_e, .res_2_h, .res_2_l, .res_2_mhl, .res_2_a,
     .res_3_b, .res_3_c, .res_3_d, .res_3_e, .res_3_h, .res_3_l, .res_3_mhl, .res_3_a] = true := by decide
theorem test_cb_row_Ax : cbRowDecodes 0xA0
    [.res_4_b, .res_4_c, .res_4_d, .res_4_e, .res_4_h, .res_4_l, .res_4_mhl, .res_4_a,
     .res_5_b, .res_5_c, .res_5_d, .res_5_e, .res_5_h, .res_5_l, .res_5_mhl, .res_5_a] = true := by decide
theorem test_cb_row_Bx : cbRowDecodes 0xB0
    [.res_6_b, .res_6_c, .res_6_d, .res_6_e, .res_6_h, .res_6_l, .res_6_mhl, .res_6_a,
     .res_7_b, .res_7_c, .res_7_d, .res_7_e, .res_7_h, .res_7_l, .res_7_mhl, .res_7_a] = true := by decide
theorem test_cb_row_Cx : cbRowDecodes 0xC0
    [.set_0_b, .set_0_c, .set_0_d, .set_0_e, .set_0_h, .set_0_l, .set_0_mhl, .set_0_a,
     .set_1_b, .set_1_c, .set_1_d, .set_1_e, .set_1_h, .set_1_l, .set_1_mhl, .set_1_a] = true := by decide
theorem test_cb_row_Dx : cbRowDecodes 0xD0
    [.set_2_b, .set_2_c, .set_2_d, .set_2_e, .set_2_h, .set_2_l, .set_2_mhl, .set_2_a,
     .set_3_b, .set_3_c, .set_3_d, .set_3_e, .set_3_h, .set_3_l, .set_3_mhl, .set_3_a] = true := by decide
theorem test_cb_row_Ex : cbRowDecodes 0xE0
    [.set_4_b, .set_4_c, .set_4_d, .set_4_e, .set_4_h, .set_4_l, .set_4_mhl, .set_4_a,
     .set_5_b, .set_5_c, .set_5_d, .set_5_e, .set_5_h, .set_5_l, .set_5_mhl, .set_5_a] = true := by decide
theorem test_cb_row_Fx : cbRowDecodes 0xF0
    [.set_6_b, .set_6_c, .set_6_d, .set_6_e, .set_6_h, .set_6_l, .set_6_mhl, .set_6_a,
     .set_7_b, .set_7_c, .set_7_d, .set_7_e, .set_7_h, .set_7_l, .set_7_mhl, .set_7_a] = true := by decide

/-- The table's numbering: bit 0 is the least significant bit of the first byte, but the rows of the prefix
and of STOP write byte 0 in the high byte (entry 22). -/
theorem test_table_words :
    decodeTableWord 8 0x78 = some .ld_a_b ∧ decodeTableWord 16 0xCB7C = some .bit_7_h ∧
    decodeTableWord 16 0x1000 = some .stop ∧ decodeTableWord 16 0x3406 = some (.ld_b_n 0x34) ∧
    decodeTableWord 24 0x1234C3 = some (.jp_nn 0x1234) ∧ decodeTableWord 8 0x01 = some (.ld_bc_nn 0x0000) ∧
    decodeTableWord 8 0xD3 = none := by decide

/-! ## One step on a small state -/

/-- The start state of 95_test_vectors.md section 0 with this memory. -/
def start (mem : Memory) : State :=
  { a := 0, b := 0, c := 0, d := 0, e := 0, h := 0, l := 0, fZ := false, fN := false, fH := false, fC := false
    sp := 0xFFFE, pc := 0x0100, ime := false, imePending := .none, mode := .running
    mem := mem, platform := Platform.quiet, params := Config.Params.default }

/-- What `f` sees after one step, if the step answers a next state. -/
def after {α : Type} (s : State) (f : State → α) : Option α :=
  match step s with
  | .next t => some (f t)
  | .fault _ => none
  | .refused _ => none

/-- The fault of one step, if it faults. -/
def faultOf (s : State) : Option Fault :=
  match step s with
  | .next _ => none
  | .fault e => some e
  | .refused _ => none

/-- `ROT_A_Z` = hardware. -/
def hardwareZ : Config.Params := { Config.Params.default with rotAZ := .hardware }
/-- `DI_DELAY` = 0. -/
def promptDi : Config.Params := { Config.Params.default with diDelay := .zero }

theorem test_L01 : after (start [(0x0100, 0x06), (0x0101, 0x2A)]) (fun t => t.b) = some 0x2A := by decide  -- LD B,n
theorem test_L03 : after { start [(0x0100, 0x78)] with b := 0x12 } (fun t => t.a) = some 0x12 := by decide  -- LD A,B
theorem test_L07 : after { start [(0x0100, 0x66), (0xC000, 0x99)] with h := 0xC0, l := 0x00 } (fun t => t.h) = some 0x99 := by decide  -- LD H,(HL)
theorem test_L09 : after { start [(0x0100, 0x7E), (0xFFFF, 0x3D)] with h := 0xFF, l := 0xFF } (fun t => t.a) = some 0x3D := by decide  -- LD A,(HL)
theorem test_L10 : after { start [(0x0100, 0x70)] with h := 0xC0, l := 0x00, b := 0x5A } (fun t => t.peek 0xC000) = some 0x5A := by decide  -- LD (HL),B
theorem test_L11 : after { start [(0x0100, 0x74)] with h := 0xC0, l := 0xDE } (fun t => t.peek 0xC0DE) = some 0xC0 := by decide  -- LD (HL),H
theorem test_L13 : after { start [(0x0100, 0x36), (0x0101, 0xFF)] with h := 0xC1, l := 0x23 } (fun t => t.peek 0xC123) = some 0xFF := by decide  -- LD (HL),n
theorem test_L14 : after { start [(0x0100, 0x0A), (0x8000, 0x07)] with b := 0x80, c := 0x00 } (fun t => t.a) = some 0x07 := by decide  -- LD A,(BC)
theorem test_L15 : after { start [(0x0100, 0x1A), (0x0104, 0xCE)] with d := 0x01, e := 0x04 } (fun t => t.a) = some 0xCE := by decide  -- LD A,(DE)
theorem test_L16 : after (start [(0x0100, 0xFA), (0x0101, 0x34), (0x0102, 0x12), (0x1234, 0x56)]) (fun t => (t.a, t.f)) = some (0x56, 0x00) := by decide  -- LD A,(nn)
theorem test_L19 : after { start [(0x0100, 0x02)] with b := 0xC0, c := 0x10, a := 0x3C } (fun t => t.peek 0xC010) = some 0x3C := by decide  -- LD (BC),A
theorem test_L20 : after { start [(0x0100, 0x12)] with d := 0xC0, e := 0x11, a := 0x3C } (fun t => t.peek 0xC011) = some 0x3C := by decide  -- LD (DE),A
theorem test_L21 : after { start [(0x0100, 0xEA), (0x0102, 0xC0)] with a := 0x77 } (fun t => t.peek 0xC000) = some 0x77 := by decide  -- LD (nn),A
theorem test_L22 : after { start [(0x0100, 0xF2), (0xFF80, 0x11)] with c := 0x80 } (fun t => t.a) = some 0x11 := by decide  -- LD A,(C)
theorem test_L24 : after { start [(0x0100, 0xE2)] with c := 0x80, a := 0x42 } (fun t => t.peek 0xFF80) = some 0x42 := by decide  -- LD (C),A
theorem test_L27 : after { start [(0x0000, 0x31), (0x0200, 0x3A)] with pc := 0x0200, h := 0x00, l := 0x00 } (fun t => (t.a, t.h, t.l)) = some (0x31, 0xFF, 0xFF) := by decide  -- LDD A,(HL)
theorem test_L29 : after { start [(0x0100, 0x32)] with h := 0xC1, l := 0x00, a := 0x01 } (fun t => (t.h, t.l, t.peek 0xC100)) = some (0xC0, 0xFF, 0x01) := by decide  -- LDD (HL),A
theorem test_L31 : after { start [(0x0100, 0x2A), (0xFFFF, 0x09)] with h := 0xFF, l := 0xFF } (fun t => (t.a, t.h, t.l)) = some (0x09, 0x00, 0x00) := by decide  -- LDI A,(HL)
theorem test_L33 : after { start [(0x0100, 0x22)] with h := 0xC0, l := 0xFF, a := 0xEE } (fun t => (t.h, t.l, t.peek 0xC0FF)) = some (0xC1, 0x00, 0xEE) := by decide  -- LDI (HL),A
theorem test_L34 : after { start [(0x0100, 0xE0), (0x0101, 0x47)] with a := 0xE4 } (fun t => t.peek 0xFF47) = some 0xE4 := by decide  -- LDH (n),A
theorem test_L36 : after (start [(0x0100, 0xF0), (0x0101, 0x44), (0xFF44, 0x90)]) (fun t => t.a) = some 0x90 := by decide  -- LDH A,(n)
theorem test_W01 : after (start [(0x0100, 0x01), (0x0101, 0x34), (0x0102, 0x12)]) (fun t => (t.b, t.c)) = some (0x12, 0x34) := by decide  -- LD BC,nn
theorem test_W05 : after { start [(0x0100, 0xF9)] with h := 0xDF, l := 0xF0 } (fun t => t.sp) = some 0xDFF0 := by decide  -- LD SP,HL
theorem test_W07 : after { start [(0x0100, 0xF8), (0x0101, 0xFF)] with sp := 0x0001, h := 0x55, l := 0x55 } (fun t => (t.h, t.l, t.f)) = some (0x00, 0x00, 0x30) := by decide  -- LDHL SP,n
theorem test_W12 : after { start [(0x0100, 0x08), (0x0102, 0xC1)] with sp := 0xFFF8 } (fun t => (t.peek 0xC100, t.peek 0xC101)) = some (0xF8, 0xFF) := by decide  -- LD (nn),SP
theorem test_W13 : after { start [(0x0100, 0x08), (0x0101, 0xFF), (0x0102, 0xFF)] with sp := 0x1234 } (fun t => (t.peek 0x0000, t.peek 0xFFFF)) = some (0x12, 0x34) := by decide  -- LD (nn),SP
theorem test_W15 : after { start [(0x0100, 0xF5)] with a := 0x12, fZ := true, fH := true, fC := true } (fun t => (t.sp, t.peek 0xFFFC, t.peek 0xFFFD, t.f)) = some (0xFFFC, 0xB0, 0x12, 0xB0) := by decide  -- PUSH AF
theorem test_W16 : after { start [(0x0100, 0xE5)] with h := 0xBE, l := 0xEF, sp := 0x0001 } (fun t => (t.sp, t.peek 0x0000, t.peek 0xFFFF)) = some (0xFFFF, 0xBE, 0xEF) := by decide  -- PUSH HL
theorem test_W19 : after { start [(0x0100, 0xF1), (0xFFFC, 0x0F), (0xFFFD, 0x01)] with sp := 0xFFFC, fZ := true, fN := true, fH := true, fC := true } (fun t => (t.a, t.sp, t.f)) = some (0x01, 0xFFFE, 0x00) := by decide  -- POP AF
theorem test_W20 : after { start [(0x0000, 0xAB), (0x0200, 0xD1), (0xFFFF, 0xCD)] with pc := 0x0200, sp := 0xFFFF } (fun t => (t.d, t.e, t.sp)) = some (0xAB, 0xCD, 0x0001) := by decide  -- POP DE
theorem test_A02 : after { start [(0x0100, 0x80)] with a := 0x3A, b := 0xC6 } (fun t => (t.a, t.f)) = some (0x00, 0xB0) := by decide  -- ADD A,B
theorem test_A05 : after { start [(0x0100, 0x86), (0xC000, 0x12)] with a := 0x3C, h := 0xC0, l := 0x00, fZ := true, fN := true, fH := true, fC := true } (fun t => (t.a, t.f)) = some (0x4E, 0x00) := by decide  -- ADD A,(HL)
theorem test_A08 : after { start [(0x0100, 0x8B)] with a := 0xE1, e := 0x0F, fC := true } (fun t => (t.a, t.f)) = some (0xF1, 0x20) := by decide  -- ADC A,E
theorem test_A11 : after { start [(0x0100, 0xCE), (0x0101, 0x0F)] with a := 0x00, fC := true } (fun t => (t.a, t.f)) = some (0x10, 0x20) := by decide  -- ADC A,#
theorem test_A15 : after { start [(0x0100, 0xD6), (0x0101, 0x40)] with a := 0x3E } (fun t => (t.a, t.f)) = some (0xFE, 0x50) := by decide  -- SUB #
theorem test_A16 : after { start [(0x0100, 0xD6), (0x0101, 0x01)] with a := 0x10 } (fun t => (t.a, t.f)) = some (0x0F, 0x60) := by decide  -- SUB #
theorem test_A20 : after { start [(0x0100, 0x9C)] with a := 0x3B, h := 0x4F, fC := true } (fun t => (t.a, t.f)) = some (0xEB, 0x70) := by decide  -- SBC A,H
theorem test_A24 : after { start [(0x0100, 0xDE), (0x0101, 0x0F)] with a := 0x10, fC := true } (fun t => (t.a, t.f)) = some (0x00, 0xE0) := by decide  -- SBC A,#
theorem test_A27 : after { start [(0x0100, 0xA5)] with a := 0x5A, l := 0x3F, fC := true } (fun t => (t.a, t.f)) = some (0x1A, 0x20) := by decide  -- AND L
theorem test_A31 : after { start [(0x0100, 0xB7)] with a := 0x00, fN := true, fH := true, fC := true } (fun t => (t.f, t.pc)) = some (0x80, 0x0101) := by decide  -- OR A
theorem test_A33 : after { start [(0x0100, 0xEE), (0x0101, 0xFF)] with a := 0x0F } (fun t => (t.a, t.f)) = some (0xF0, 0x00) := by decide  -- XOR #
theorem test_A36 : after { start [(0x0100, 0xFE), (0x0101, 0x40)] with a := 0x3C } (fun t => (t.f, t.pc)) = some (0x50, 0x0102) := by decide  -- CP #
theorem test_A39 : after { start [(0x0100, 0xBE), (0xC000, 0x01)] with a := 0x00, h := 0xC0, l := 0x00 } (fun t => (t.f, t.pc)) = some (0x70, 0x0101) := by decide  -- CP (HL)
theorem test_A41 : after { start [(0x0100, 0x04)] with b := 0x0F, fC := true } (fun t => (t.b, t.f)) = some (0x10, 0x30) := by decide  -- INC B
theorem test_A43 : after { start [(0x0100, 0x34), (0xC000, 0x50)] with h := 0xC0, l := 0x00, fN := true } (fun t => (t.peek 0xC000, t.f)) = some (0x51, 0x00) := by decide  -- INC (HL)
theorem test_A46 : after { start [(0x0100, 0x2D)] with l := 0x00, fC := true } (fun t => (t.l, t.f)) = some (0xFF, 0x70) := by decide  -- DEC L
theorem test_A48 : after { start [(0x0100, 0x35), (0xC000, 0x01)] with h := 0xC0, l := 0x00 } (fun t => (t.peek 0xC000, t.f)) = some (0x00, 0xC0) := by decide  -- DEC (HL)
theorem test_X01 : after { start [(0x0100, 0x09)] with h := 0x8A, l := 0x23, b := 0x06, c := 0x05, fZ := true } (fun t => (t.h, t.l, t.f)) = some (0x90, 0x28, 0xA0) := by decide  -- ADD HL,BC
theorem test_X04 : after { start [(0x0100, 0x19)] with h := 0xFF, l := 0xFF, d := 0x00, e := 0x01 } (fun t => (t.h, t.l, t.f)) = some (0x00, 0x00, 0x30) := by decide  -- ADD HL,DE
theorem test_X06 : after { start [(0x0100, 0x09)] with h := 0x00, l := 0xFF, b := 0x00, c := 0x01, fZ := true, fN := true, fH := true, fC := true } (fun t => (t.h, t.l, t.f)) = some (0x01, 0x00, 0x80) := by decide  -- ADD HL,BC
theorem test_X07 : after { start [(0x0100, 0xE8), (0x0101, 0xFE)] with sp := 0xFFFE } (fun t => (t.sp, t.f)) = some (0xFFFC, 0x30) := by decide  -- ADD SP,n
theorem test_X11 : after { start [(0x0100, 0xE8), (0x0101, 0x80)] with sp := 0x0000 } (fun t => (t.sp, t.f)) = some (0xFF80, 0x00) := by decide  -- ADD SP,n
theorem test_X14 : after { start [(0x0100, 0x03)] with b := 0xFF, c := 0xFF } (fun t => (t.b, t.c, t.f)) = some (0x00, 0x00, 0x00) := by decide  -- INC BC
theorem test_X17 : after { start [(0x0100, 0x0B)] with b := 0x01, c := 0x00 } (fun t => (t.b, t.c, t.f)) = some (0x00, 0xFF, 0x00) := by decide  -- DEC BC
theorem test_X20 : after { start [(0x0100, 0x3B)] with sp := 0x0000 } (fun t => (t.sp, t.f)) = some (0xFFFF, 0x00) := by decide  -- DEC SP
theorem test_M01 : after { start [(0x0100, 0xCB), (0x0101, 0x37)] with a := 0xF1, fZ := true, fN := true, fH := true, fC := true } (fun t => (t.a, t.f, t.pc)) = some (0x1F, 0x00, 0x0102) := by decide  -- SWAP A
theorem test_M03 : after { start [(0x0100, 0xCB), (0x0101, 0x36), (0xC000, 0x2B)] with h := 0xC0, l := 0x00 } (fun t => (t.peek 0xC000, t.f, t.pc)) = some (0xB2, 0x00, 0x0102) := by decide  -- SWAP (HL)
theorem test_M05 : after { start [(0x0100, 0x27)] with a := 0x9A } (fun t => (t.a, t.f, t.pc)) = some (0x00, 0x90, 0x0101) := by decide  -- DAA
theorem test_M08 : after { start [(0x0100, 0x27)] with a := 0x2D, fN := true, fH := true } (fun t => (t.a, t.f, t.pc)) = some (0x27, 0x40, 0x0101) := by decide  -- DAA
theorem test_M13 : after { start [(0x0100, 0x27)] with a := 0xFF, fN := true, fH := true, fC := true } (fun t => (t.a, t.f, t.pc)) = some (0x99, 0x50, 0x0101) := by decide  -- DAA
theorem test_M17 : after { start [(0x0100, 0x2F)] with a := 0xFF, fC := true } (fun t => (t.a, t.f, t.pc)) = some (0x00, 0x70, 0x0101) := by decide  -- CPL
theorem test_M19 : after { start [(0x0100, 0x3F)] with fZ := true } (fun t => (t.f, t.pc)) = some (0x90, 0x0101) := by decide  -- CCF
theorem test_M21 : after { start [(0x0100, 0x37)] with fZ := true, fN := true, fH := true, fC := true } (fun t => (t.f, t.pc)) = some (0x90, 0x0101) := by decide  -- SCF
theorem test_M22 : after { start [] with fZ := true, fN := true, fH := true, fC := true } (fun t => (t.f, t.pc)) = some (0xF0, 0x0101) := by decide  -- NOP
theorem test_M23 : after { start [(0x0150, 0x76)] with pc := 0x0150 } (fun t => (t.f, t.pc, t.mode)) = some (0x00, 0x0151, .halted) := by decide  -- HALT
theorem test_M24 : after { start [(0x0200, 0x10)] with pc := 0x0200 } (fun t => (t.f, t.pc, t.mode)) = some (0x00, 0x0202, .stopped) := by decide  -- STOP
theorem test_M25 : faultOf (start [(0x0100, 0x10), (0x0101, 0x01)]) = some (.illegalOpcode 0x10) := by decide  -- (10 01)
theorem test_M26 : faultOf (start [(0x0100, 0xD3)]) = some (.illegalOpcode 0xD3) := by decide  -- (D3)
theorem test_M28 : after { start [(0x0100, 0xF3)] with ime := true } (fun t => (t.f, t.pc, t.ime, t.imePending)) = some (0x00, 0x0101, true, .disable) := by decide  -- DI
theorem test_M30 : after { start [(0x0100, 0xF3)] with ime := true, params := promptDi } (fun t => (t.f, t.pc, t.ime)) = some (0x00, 0x0101, false) := by decide  -- DI
theorem test_M31 : after { start [(0x0100, 0xFB)] with ime := false } (fun t => (t.f, t.pc, t.ime, t.imePending)) = some (0x00, 0x0101, false, .enable) := by decide  -- EI
theorem test_S01 : after { start [(0x0100, 0x07)] with a := 0x85 } (fun t => (t.a, t.f)) = some (0x0B, 0x10) := by decide  -- RLCA
theorem test_S03 : after { start [(0x0100, 0x07)] with a := 0x00, fN := true, fH := true, fC := true, params := hardwareZ } (fun t => (t.f, t.pc)) = some (0x00, 0x0101) := by decide  -- RLCA
theorem test_S04 : after { start [(0x0100, 0x17)] with a := 0x95, fC := true } (fun t => (t.a, t.f)) = some (0x2B, 0x10) := by decide  -- RLA
theorem test_S07 : after { start [(0x0100, 0x0F)] with a := 0x3B } (fun t => (t.a, t.f)) = some (0x9D, 0x10) := by decide  -- RRCA
theorem test_S09 : after { start [(0x0100, 0x1F)] with a := 0x81 } (fun t => (t.a, t.f)) = some (0x40, 0x10) := by decide  -- RRA
theorem test_S11 : after { start [(0x0100, 0x1F)] with a := 0x01, params := hardwareZ } (fun t => (t.a, t.f)) = some (0x00, 0x10) := by decide  -- RRA
theorem test_S13 : after { start [(0x0100, 0xCB)] with b := 0x85 } (fun t => (t.b, t.f)) = some (0x0B, 0x10) := by decide  -- RLC B
theorem test_S16 : after { start [(0x0100, 0xCB), (0x0101, 0x15)] with l := 0x80 } (fun t => (t.l, t.f)) = some (0x00, 0x90) := by decide  -- RL L
theorem test_S18 : after { start [(0x0100, 0xCB), (0x0101, 0x16), (0xC000, 0x11)] with h := 0xC0, l := 0x00, fC := true } (fun t => (t.peek 0xC000, t.f)) = some (0x23, 0x00) := by decide  -- RL (HL)
theorem test_S19 : after { start [(0x0100, 0xCB), (0x0101, 0x09)] with c := 0x01 } (fun t => (t.c, t.f)) = some (0x80, 0x10) := by decide  -- RRC C
theorem test_S22 : after { start [(0x0100, 0xCB), (0x0101, 0x1E), (0xC000, 0x8A)] with h := 0xC0, l := 0x00, fC := true } (fun t => (t.peek 0xC000, t.f)) = some (0xC5, 0x00) := by decide  -- RR (HL)
theorem test_S24 : after { start [(0x0100, 0xCB), (0x0101, 0x26), (0xC000, 0xFF)] with h := 0xC0, l := 0x00 } (fun t => (t.peek 0xC000, t.f)) = some (0xFE, 0x10) := by decide  -- SLA (HL)
theorem test_S25 : after { start [(0x0100, 0xCB), (0x0101, 0x2F)] with a := 0x8A } (fun t => (t.a, t.f)) = some (0xC5, 0x00) := by decide  -- SRA A
theorem test_S26 : after { start [(0x0100, 0xCB), (0x0101, 0x2E), (0xC000, 0x01)] with h := 0xC0, l := 0x00 } (fun t => (t.peek 0xC000, t.f)) = some (0x00, 0x90) := by decide  -- SRA (HL)
theorem test_S29 : after { start [(0x0100, 0xCB), (0x0101, 0x3E), (0xC000, 0xFF)] with h := 0xC0, l := 0x00 } (fun t => (t.peek 0xC000, t.f)) = some (0x7F, 0x10) := by decide  -- SRL (HL)
theorem test_B02 : after { start [(0x0100, 0xCB), (0x0101, 0x7C)] with h := 0x7F } (fun t => (t.f, t.pc)) = some (0xA0, 0x0102) := by decide  -- BIT 7,H
theorem test_B03 : after { start [(0x0100, 0xCB), (0x0101, 0x46), (0xC000, 0xFE)] with h := 0xC0, l := 0x00, fC := true, fN := true } (fun t => (t.f, t.pc)) = some (0xB0, 0x0102) := by decide  -- BIT 0,(HL)
theorem test_B05 : after { start [(0x0100, 0xCB), (0x0101, 0x58)] with b := 0xF7 } (fun t => (t.f, t.pc)) = some (0xA0, 0x0102) := by decide  -- BIT 3,B
theorem test_B07 : after { start [(0x0100, 0xCB), (0x0101, 0xDE)] with h := 0xC0, l := 0x00 } (fun t => (t.peek 0xC000, t.f)) = some (0x08, 0x00) := by decide  -- SET 3,(HL)
theorem test_B09 : after { start [(0x0100, 0xCB), (0x0101, 0xFD)] with l := 0x80, fZ := true, fN := true, fH := true, fC := true } (fun t => (t.f, t.pc)) = some (0xF0, 0x0102) := by decide  -- SET 7,L
theorem test_B10 : after { start [(0x0100, 0xCB), (0x0101, 0xBF)] with a := 0xFF } (fun t => (t.a, t.f)) = some (0x7F, 0x00) := by decide  -- RES 7,A
theorem test_B11 : after { start [(0x0100, 0xCB), (0x0101, 0x86), (0xC000, 0x01)] with h := 0xC0, l := 0x00, fZ := true, fN := true, fH := true, fC := true } (fun t => (t.peek 0xC000, t.f)) = some (0x00, 0xF0) := by decide  -- RES 0,(HL)
theorem test_J01 : after (start [(0x0100, 0xC3), (0x0101, 0x50), (0x0102, 0x01)]) (fun t => t.pc) = some 0x0150 := by decide  -- JP nn
theorem test_J03 : after (start [(0x0100, 0xCA), (0x0102, 0x02)]) (fun t => t.pc) = some 0x0103 := by decide  -- JP Z,nn
theorem test_J04 : after (start [(0x0100, 0xC2), (0x0102, 0x02)]) (fun t => t.pc) = some 0x0200 := by decide  -- JP NZ,nn
theorem test_J06 : after { start [(0x0100, 0xDA), (0x0101, 0x34), (0x0102, 0x12)] with fC := true } (fun t => t.pc) = some 0x1234 := by decide  -- JP C,nn
theorem test_J09 : after { start [(0x0100, 0xD2), (0x0101, 0x34), (0x0102, 0x12)] with fC := true } (fun t => t.pc) = some 0x0103 := by decide  -- JP NC,nn
theorem test_J10 : after { start [(0x0100, 0xE9), (0x4000, 0x99)] with h := 0x40, l := 0x00 } (fun t => t.pc) = some 0x4000 := by decide  -- JP (HL)
theorem test_J12 : after (start [(0x0100, 0x18), (0x0101, 0xFE)]) (fun t => t.pc) = some 0x0100 := by decide  -- JR n
theorem test_J14 : after (start [(0x0100, 0x18), (0x0101, 0x80)]) (fun t => t.pc) = some 0x0082 := by decide  -- JR n
theorem test_J16 : after { start [(0xFFF8, 0x18), (0xFFF9, 0x10)] with pc := 0xFFF8 } (fun t => t.pc) = some 0x000A := by decide  -- JR n
theorem test_J18 : after { start [(0x0105, 0x20), (0x0106, 0xFB)] with pc := 0x0105 } (fun t => t.pc) = some 0x0102 := by decide  -- JR NZ,n
theorem test_J20 : after { start [(0x0100, 0x28), (0x0101, 0x02)] with fZ := true } (fun t => t.pc) = some 0x0104 := by decide  -- JR Z,n
theorem test_J23 : after { start [(0x0100, 0x30), (0x0101, 0x02)] with fC := true } (fun t => t.pc) = some 0x0102 := by decide  -- JR NC,n
theorem test_J25 : after (start [(0x0100, 0x38), (0x0101, 0xFE)]) (fun t => t.pc) = some 0x0102 := by decide  -- JR C,n
theorem test_T01 : after { start [(0x0150, 0xCD), (0x0152, 0x20)] with pc := 0x0150 } (fun t => (t.sp, t.peek 0xFFFC, t.peek 0xFFFD, t.pc)) = some (0xFFFC, 0x53, 0x01, 0x2000) := by decide  -- CALL nn
theorem test_T02 : after { start [(0x0150, 0xCD), (0x0151, 0x34), (0x0152, 0x12)] with pc := 0x0150, sp := 0x0001 } (fun t => (t.sp, t.peek 0x0000, t.peek 0xFFFF, t.pc)) = some (0xFFFF, 0x01, 0x53, 0x1234) := by decide  -- CALL nn
theorem test_T03 : after { start [(0x0200, 0xDC), (0x0202, 0x30)] with pc := 0x0200 } (fun t => t.pc) = some 0x0203 := by decide  -- CALL C,nn
theorem test_T04 : after { start [(0x0200, 0xDC), (0x0202, 0x30)] with pc := 0x0200, sp := 0xD000, fC := true } (fun t => (t.sp, t.peek 0xCFFE, t.peek 0xCFFF, t.pc)) = some (0xCFFE, 0x03, 0x02, 0x3000) := by decide  -- CALL C,nn
theorem test_T08 : after { start [(0x1234, 0xC7)] with pc := 0x1234 } (fun t => (t.sp, t.peek 0xFFFC, t.peek 0xFFFD, t.pc)) = some (0xFFFC, 0x35, 0x12, 0x0000) := by decide  -- RST 00H
theorem test_T15 : after { start [(0xFFFF, 0xFF)] with pc := 0xFFFF } (fun t => (t.sp, t.peek 0xFFFC, t.peek 0xFFFD, t.pc)) = some (0xFFFC, 0x00, 0x00, 0x0038) := by decide  -- RST 38H
theorem test_T16 : after { start [(0x2000, 0xC9), (0xFFFC, 0x53), (0xFFFD, 0x01)] with pc := 0x2000, sp := 0xFFFC } (fun t => (t.sp, t.pc)) = some (0xFFFE, 0x0153) := by decide  -- RET
theorem test_T17 : after { start [(0x2005, 0xC8), (0xFFFC, 0x53), (0xFFFD, 0x01)] with pc := 0x2005, sp := 0xFFFC } (fun t => t.pc) = some 0x2006 := by decide  -- RET Z
theorem test_T21 : after { start [(0x2005, 0xD8), (0xFFFC, 0x53), (0xFFFD, 0x01)] with pc := 0x2005, sp := 0xFFFC, fC := true } (fun t => (t.sp, t.pc)) = some (0xFFFE, 0x0153) := by decide  -- RET C
theorem test_T22 : after { start [(0x0040, 0xD9), (0xFFFC, 0x53), (0xFFFD, 0x01)] with pc := 0x0040, ime := false, sp := 0xFFFC } (fun t => (t.sp, t.pc, t.ime)) = some (0xFFFE, 0x0153, true) := by decide  -- RETI
theorem test_T23 : after { start [(0x0000, 0xC0), (0x0040, 0xD9)] with pc := 0x0040, ime := true, sp := 0xFFFF } (fun t => (t.sp, t.pc, t.ime)) = some (0x0001, 0xC000, true) := by decide  -- RETI

/-! ## Interrupts (95_test_vectors.md, I1 to I8), one step each -/

/-- One source, its request raised, at the vector 0x0040. -/
def requested : Platform := { Platform.quiet with requests := [0x0040] }

theorem test_I1_entry :
    after { start [(0x0123, 0x3C)] with pc := 0x0123, ime := true, platform := requested }
      (fun t => (t.a, t.pc, t.sp, t.peek 0xFFFD, t.peek 0xFFFC)) =
    some (0x00, 0x0040, 0xFFFC, 0x01, 0x23) := by decide
theorem test_I2_no_entry :
    after { start [(0x0123, 0x3C)] with pc := 0x0123, platform := requested } (fun t => (t.a, t.pc, t.platform.requests)) =
    some (0x01, 0x0124, [0x0040]) := by decide
theorem test_I3_after_EI :
    after { start [(0x0101, 0x3C)] with pc := 0x0101, imePending := .enable, platform := requested }
      (fun t => (t.a, t.pc, t.ime, t.imePending)) = some (0x01, 0x0102, true, .none) := by decide
theorem test_I4a_window_after_DI :
    after { start [(0x0101, 0x3C)] with pc := 0x0101, ime := true, imePending := .disable, platform := requested }
      (fun t => (t.pc, t.ime, t.imePending)) = some (0x0040, false, .none) := by decide
theorem test_I5_halted_entry :
    after { start [(0x0151, 0x3C)] with pc := 0x0151, ime := true, mode := .halted
                                        platform := { Platform.quiet with arrivals := [[.requests [0x0040]]] } }
      (fun t => (t.pc, t.mode, t.peek 0xFFFC)) = some (0x0040, .running, 0x51) := by decide
theorem test_I6_halted_wake :
    after { start [(0x0151, 0x3C)] with pc := 0x0151, mode := .halted, platform := requested }
      (fun t => (t.pc, t.mode, t.platform.requests)) = some (0x0151, .running, [0x0040]) := by decide
theorem test_I8_reti_does_not_delay :
    after { start [(0x0040, 0xD9), (0xFFFC, 0x23), (0xFFFD, 0x01)] with pc := 0x0040, sp := 0xFFFC, platform := requested }
      (fun t => (t.pc, t.ime, t.sp)) = some (0x0123, true, 0xFFFE) := by decide
/-- R223: bits 0 and 2 requested and enabled; bit 0 is served and cleared in IF. -/
theorem test_gameBoy_source :
    after { start [(0xFF0F, 0xE5), (0xFFFF, 0x07)] with
              ime := true, params := { Config.Params.default with intSource := .gameBoy }, sp := 0xD000 }
      (fun t => (t.pc, t.peek 0xFF0F, t.ime)) = some (0x0040, 0xE4, false) := by decide
/-- R229: the wake event ends the stopped state. -/
theorem test_stopped_wake :
    after { start [] with mode := .stopped, platform := { Platform.quiet with stopWake := true } } (fun t => (t.mode, t.pc)) =
    some (.running, 0x0100) := by decide
/-- The host's placement: STOP and a three-byte instruction as the first step after reset. -/
theorem test_withFetchWord :
    after (State.reset.withFetchWord 16 0x1000) (fun t => t.mode) = some .stopped ∧
    after (State.reset.withFetchWord 24 0x1234C3) (fun t => t.pc) = some 0x1234 := by decide

/-- Figures of R263, as printed. -/
theorem test_cycles :
    [Instr.rst_38, .ld_mnn_sp 0, .call_nn 0, .bit_0_mhl, .bit_0_a, .stop, .sbc_a_n 0, .inc_mhl, .jp_hl, .ret].map Instr.cycles =
    [32, 20, 12, 16, 8, 4, 8, 12, 4, 8] := by decide

/-! ## A state that meets the hypotheses of each statement -/

/-- A memory map with ROM, a device window that holds the stack and 0xFF40, and a hole. -/
def mapped : Config.Params :=
  { Config.Params.default with
    memMap := [⟨0x0000, 0x7FFF, .rom⟩, ⟨0xA000, 0xBFFF, .absent 0xFF⟩, ⟨0xFF00, 0xFF7F, .device⟩] }

theorem witness_StepKeepsCanonicalMemory :
    (start [(0x0100, 0x77)]).mem.wf = true ∧ after { start [(0x0100, 0x77)] with a := 1 } (fun t => t.peek 0) = some 1 := by decide
theorem witness_StepKeepsTheParameters : (after { start [] with params := mapped } (fun t => t.params)) = some mapped := by decide
theorem witness_DecodeOfEncode : (Instr.ld_bc_nn 0xFFFF).wf = true := by decide
theorem witness_EncodeOfDecode :
    decode [0x00] = .instr .nop [] ∧ decode [0xCB, 0xFF, 0x00] = .instr .set_7_a [0x00] ∧
    decode [0x01, 0xFF, 0xFF] = .instr (.ld_bc_nn 0xFFFF) [] := by decide
/-- `b0 b1` at pc meets the hypotheses about the state. -/
def holdsIllegal (b0 b1 : Byte) : Bool :=
  let s := start (Memory.write [(0x0100, b0)] 0x0101 b1)
  decide (s.deliver.mode = .running) && s.deliver.intTaken.isNone &&
    decide ((s.memRead s.pc).1 = b0) && decide (((s.memRead s.pc).2.memRead (s.pc + 1)).1 = b1)
/-- Both kinds of word, at the first and last unlisted byte and on both sides of 00. -/
theorem witness_IllegalOpcodeFaults :
    holdsIllegal 0xD3 0x00 = true ∧ holdsIllegal 0xFD 0x00 = true ∧ holdsIllegal 0x10 0x01 = true ∧ holdsIllegal 0x10 0xFF = true := by decide
/-- A cartridge: a store to 0x2000-0x3FFF selects the bank of 0x4000 bytes that 0x4000-0x7FFF reads; the
cells hold the banks, and from 0x100000 on the bank number (R38's example). -/
def bankedRom : Config.GivenMap :=
  let bank := Config.Num.cell (.lit 0x100000)
  { answer := .cond (.op .lt .addr (.lit 0x4000)) (.cell .addr)
      (.cell (.op .add (.op .mul bank (.lit 0x4000)) (.op .sub .addr (.lit 0x4000))))
    onRead := []
    onWrite := [⟨.lit 0x100000, .cond (.op .eq (.op .div .addr (.lit 0x2000)) (.lit 1)) .value bank⟩] }
/-- Work RAM of 0x2000 bytes and its mirror. -/
def echoRam : Config.GivenMap :=
  let place := Config.Num.op .mod .addr (.lit 0x2000)
  { answer := .cell (.op .add (.lit 0x200000) place), onRead := [], onWrite := [⟨.op .add (.lit 0x200000) place, .value⟩] }
/-- A byte that each read makes one more. -/
def counter : Config.GivenMap :=
  { answer := .cell (.lit 0x300000), onRead := [⟨.lit 0x300000, .op .add (.cell (.lit 0x300000)) (.lit 1)⟩]
    onWrite := [⟨.lit 0x300000, .value⟩] }
/-- A machine with these, and with an interrupt request that is a cell the program can write. -/
def board (cells : Memory) : State :=
  { start [] with
    platform := { Platform.quiet with cells := cells }
    params := { Config.Params.default with
      memMap := [⟨0x0000, 0x7FFF, .given bankedRom⟩, ⟨0xC000, 0xFDFF, .given echoRam⟩, ⟨0xFF04, 0xFF04, .given counter⟩]
      intSource := .given { pending := .op .and (.cell (.lit 0x300000)) (.stored (.lit 0xFFFF)), vector := .lit 0x0050
                            onSelect := [⟨.lit 0x300000, .lit 0⟩], stopWake := .cell (.lit 0x300000) } } }
theorem test_given_banks :
    (((board [(0x0001, 0x11), (0x8001, 0x22)]).memWrite 0x2000 0x02).memRead 0x4001).1 = 0x22 ∧
    (((board [(0x0001, 0x11), (0x8001, 0x22)]).memWrite 0x4000 0x02).memRead 0x4001).1 = 0x11 := by decide
theorem test_given_mirror :
    (((board []).memWrite 0xFDFF 0x5A).memRead 0xDDFF).1 = 0x5A ∧ (((board []).memWrite 0xC000 0x5A).memRead 0xE000).1 = 0x5A := by decide
/-- INC (HL) reads the counter, which counts to 8, and writes 8. -/
theorem test_given_side_effect :
    after { board [(0x0100, 0x34), (0x300000, 0x07)] with h := 0xFF, l := 0x04 } (fun t => t.platform.cells) =
      some [(0x0100, 0x34), (0x300000, 0x08)] ∧
    ((board [(0x300000, 0xFF)]).memRead 0xFF04).2.platform.cells = [] := by decide
theorem test_given_source :
    after { board [(0x300000, 0x04)] with mem := [(0xFFFF, 0x04)], ime := true, sp := 0xD002 }
      (fun t => (t.pc, t.sp, t.platform.cells)) = some (0x0050, 0xD000, [(0x201001, 0x01)]) ∧
    (board [(0x300000, 0x04)]).intPending = false ∧ (board [(0x300000, 0x04)]).stopWake = true := by decide
/-- Code in a given map: LD BC,nn, read through the map. -/
theorem witness_StepRunsTheDecodedInstruction_given :
    let s := board [(0x0100, 0x01), (0x0101, 0x34), (0x0102, 0x12)]
    s.deliver.mode = .running ∧ s.deliver.intTaken = none ∧ lengthOf (s.memRead 0x0100).1 = 3 ∧
    decodeBytes 0x01 (s.memRead 0x0101).1 (s.memRead 0x0102).1 = some (.ld_bc_nn 0x1234) ∧
    after s (fun t => t.bc) = some 0x1234 := by decide
theorem witness_StepRunsTheDecodedInstruction :
    let s := start [(0x0100, 0xFA), (0x0101, 0x34), (0x0102, 0x12)]
    s.deliver.mode = .running ∧ s.deliver.intTaken = none ∧
    (s.storedAt s.pc = true ∧ s.storedAt (s.pc + 1) = true ∧ s.storedAt (s.pc + 2) = true ∧
      decodeBytes (s.peek s.pc) (s.peek (s.pc + 1)) (s.peek (s.pc + 2)) = some (.ld_a_mnn 0x1234)) := by decide
theorem witness_FetchSeesTheLatestStore :
    (start [(0x0100, 0x12)]).mem.wf = true ∧ (start [(0x0100, 0x12)]).kindAt 0x0100 = .ram ∧ lengthOf 0x3C = 1 ∧
    decodeBytes 0x3C 0 0 = some .inc_a := by decide
theorem witness_PcAdvancesByTheLength :
    isTransfer .stop = false ∧ exec .stop (start []) = .next { start [] with pc := 0x0102, mode := .stopped } := ⟨rfl, rfl⟩
theorem witness_FlagsFollowTheTable :
    ∃ t, exec .scf (start []) = .next t ∧ (flagRow .scf).c = .set ∧ t.fC = true := ⟨_, rfl, rfl, rfl⟩
theorem witness_OnlyHaltAndStopChangeTheMode :
    exec .halt (start []) = .next { start [] with pc := 0x0101, mode := .halted } ∧ ∃ t, exec .nop (start []) = .next t := ⟨rfl, _, rfl⟩
theorem witness_ImeFollowsTheCompletionStep :
    ∃ t, exec .di (State.applyImePending { start [] with imePending := .enable }) = .next t ∧ t.ime = true ∧ t.imePending = .disable :=
  ⟨_, rfl, rfl, rfl⟩
theorem witness_NoInstructionReadsIme :
    Instr.nop ≠ .ei ∧ Instr.nop ≠ .di ∧ Instr.nop ≠ .reti ∧ ∃ t, exec .nop (start []) = .next t := by
  refine ⟨by decide, by decide, by decide, _, rfl⟩
theorem witness_ExecTouchesThePlatformOnlyByAccesses :
    ∃ t, exec (.ldh_mn_a 0x40) { start [] with params := mapped } = .next t ∧ t.platform.bus = [.write 0xFF40 0x00] := ⟨_, rfl, rfl⟩
/-- From running and from halted; the external source and R223's at its lowest and highest bit. -/
theorem witness_InterruptEntry :
    (let s : State := { start [] with ime := true, platform := requested }
     s.deliver.mode ≠ .stopped ∧ s.deliver.ime = true ∧ s.deliver.intSelect = some (0x0040, { s with platform := Platform.quiet })) ∧
    (let s : State := { start [] with ime := true, mode := .halted, platform := requested }
     s.deliver.mode ≠ .stopped ∧ s.deliver.ime = true ∧ s.deliver.intSelect = some (0x0040, { s with platform := Platform.quiet })) := by
  decide
/-- R223's instance for one requested bit. -/
def servesBit (v : Byte) (vector : Word) : Bool :=
  let s : State := { start [(0xFF0F, v), (0xFFFF, 0x1F)] with ime := true, params := { Config.Params.default with intSource := .gameBoy } }
  decide (s.deliver.mode ≠ .stopped) && s.deliver.ime && decide (s.deliver.intSelect = some (vector, { s with mem := [(0xFFFF, 0x1F)] }))
theorem witness_InterruptEntry_gameBoy : servesBit 0x01 0x0040 = true ∧ servesBit 0x10 0x0060 = true := by decide
theorem witness_HaltedAndStoppedSteps :
    (let s : State := { start [] with mode := .halted }
     s.deliver.mode = .halted ∧ s.deliver.intPending = false) ∧
    (let s : State := { start [] with mode := .halted, platform := requested }
     s.deliver.mode = .halted ∧ s.deliver.intPending = true ∧ s.deliver.ime = false) ∧
    (let s : State := { start [] with mode := .stopped }
     s.deliver.mode = .stopped ∧ s.deliver.stopWake = false) ∧
    (let s : State := { start [] with mode := .stopped, platform := { Platform.quiet with arrivals := [[.stopWake true]] } }
     s.deliver.mode = .stopped ∧ s.deliver.stopWake = true) := by decide
theorem witness_EiDelaysOneInstruction :
    let s : State := { start [(0x0100, 0xFB), (0x0101, 0x3C)] with platform := requested }
    let t : State := { s with pc := 0x0101, imePending := .enable }
    s.ime = false ∧ s.mode = .running ∧ exec .ei s = .next t ∧ t.deliver.holdsAtPc .inc_a :=
  ⟨rfl, rfl, rfl, by decide, by decide, by decide, by decide⟩
theorem witness_InterruptThenRetiResumes :
    let s : State := { start [(0x0040, 0xD9)] with ime := true, platform := requested }
    s.deliver.mode ≠ .stopped ∧ s.deliver.ime = true ∧ s.deliver.intSelect = some (0x0040, { s with platform := Platform.quiet }) ∧
    s.mem.wf = true ∧ s.kindAt (s.sp - 1) = .ram ∧ s.kindAt (s.sp - 2) = .ram := by decide
/-- Halted with nothing coming; halted with events that never wake it; stopped. -/
theorem witness_FinishedRunStutters :
    State.finished { start [] with mode := .halted } = true ∧
    State.finished { start [] with mode := .halted, platform := { Platform.quiet with arrivals := [[], [.stopWake true]] } } = true ∧
    State.finished { start [] with mode := .stopped, platform := requested } = true ∧ State.finished (start []) = false := by decide
theorem witness_ExternalSourceServesInOrder :
    (start []).params.intSource = .external ∧ requested.requests = 0x0040 :: [] := by decide
theorem witness_GameBoySourceServesLowestBit :
    let s : State := { start [(0xFF0F, 0xFF), (0xFFFF, 0x10)] with params := { Config.Params.default with intSource := .gameBoy } }
    s.params.intSource = .gameBoy ∧ s.mem.wf = true ∧
    s.intSelect = some (0x0060, { s with mem := [(0xFF0F, 0xEF), (0xFFFF, 0x10)] }) ∧
    s.intPending = true ∧ State.intPending { s with mem := [(0xFF0F, 0xE0), (0xFFFF, 0xFF)] } = false := by decide
/-- HL, the two bytes below SP and the two at SP on a device, at both ends of its window. -/
theorem witness_DevicesSeeEachAccessOnce :
    (let s : State := { start [] with h := 0xFF, l := 0x7F, params := mapped }
     s.kindAt s.hl = .device) ∧
    (let s : State := { start [] with sp := 0xFF80, params := mapped }
     s.kindAt (s.sp - 1) = .device ∧ s.kindAt (s.sp - 2) = .device) ∧
    (let s : State := { start [] with sp := 0xFF00, params := mapped }
     s.kindAt s.sp = .device ∧ s.kindAt (s.sp + 1) = .device) ∧ Opnd8.b ≠ .mhl := by decide
/-- The same for a given map; the stack from its last address on, and across its first. -/
theorem witness_DevicesSeeEachAccessOnce_given :
    State.kindAt (board []) (State.hl { board [] with h := 0xFF, l := 0x04 }) = .given counter ∧
    (let s : State := { board [] with sp := 0xFE00 }
     s.kindAt (s.sp - 1) = .given echoRam ∧ s.kindAt (s.sp - 2) = .given echoRam) ∧
    (let s : State := { board [] with sp := 0xC000 }
     s.kindAt s.sp = .given echoRam ∧ s.kindAt (s.sp + 1) = .given echoRam) := by decide
theorem witness_RomAndAbsentAddresses :
    State.kindAt { start [] with params := mapped } 0x0000 = .rom ∧ State.kindAt { start [] with params := mapped } 0x7FFF = .rom ∧
    State.hl { start [] with h := 0x7F, l := 0xFF } = 0x7FFF ∧
    State.kindAt { start [] with h := 0xA0, params := mapped } 0xA000 = .absent 0xFF ∧ Opnd8.a ≠ .mhl := by decide
/-- A register operand: the hypothesis of the load statements. -/
theorem witness_LoadRegisterFromRegister : Opnd8.b ≠ .mhl ∧ Opnd8.a ≠ .mhl := by decide
theorem witness_LoadRegisterFromMemory : Opnd8.h ≠ .mhl := by decide
theorem witness_StoreToMemoryAtHl :
    Opnd8.l ≠ .mhl ∧ (start []).kindAt (start []).hl = .ram ∧ (start []).mem.wf = true := by decide
theorem witness_LoadImmediateByte : Opnd8.l ≠ .mhl := by decide
theorem witness_LoadAFromAddress :
    ((Instr.ldh_a_mn 0xFF, 0xFFFF, 2) : Instr × Word × Word) ∈
      [(Instr.ld_a_mbc, 0x0000, 1), (Instr.ldh_a_mn 0xFF, BitVec.ofNat 16 (0xFF00 + 0xFF), 2)] := by decide
theorem witness_StoreAToAddress :
    ((Instr.ldh_mn_a 0x00, 0xFF00, 2) : Instr × Word × Word) ∈
      [(Instr.ld_mbc_a, 0x0000, 1), (Instr.ldh_mn_a 0x00, BitVec.ofNat 16 (0xFF00 + 0x00), 2)] := by decide
/-- HL at both ends of the address space. -/
theorem witness_LoadAndStepHl :
    ((Instr.ldd_a_mhl, 0xFFFF) : Instr × Word) ∈ [(Instr.ldd_a_mhl, (start []).hl - 1), (Instr.ldi_a_mhl, (start []).hl + 1)] ∧
    ((Instr.ldi_mhl_a, 0x0000) : Instr × Word) ∈ [(Instr.ldd_mhl_a, 0xFFFE), (Instr.ldi_mhl_a, (0xFFFF : Word) + 1)] := by decide
/-- `nn` = 0xFFFF: the high byte goes to 0x0000. -/
theorem witness_StoreSpLittleEndian :
    (start []).mem.wf = true ∧ (start []).kindAt 0xFFFF = .ram ∧ (start []).kindAt ((0xFFFF : Word) + 1) = .ram := by decide
theorem witness_PushThenPopRestores :
    let s : State := { start [] with sp := 0x0001 }
    s.mem.wf = true ∧ s.kindAt (s.sp - 1) = .ram ∧ s.kindAt (s.sp - 2) = .ram := by decide
theorem witness_CallThenRetResumes :
    let s : State := { start [] with sp := 0x0000 }
    s.mem.wf = true ∧ s.kindAt (s.sp - 1) = .ram ∧ s.kindAt (s.sp - 2) = .ram := by decide
theorem witness_AddAndAdc : AluOp.add = .add ∨ AluOp.add = .adc := by decide
theorem witness_SubSbcAndCp : AluOp.cp = .sub ∨ AluOp.cp = .sbc ∨ AluOp.cp = .cp := by decide
theorem witness_LogicOperations : AluOp.xor = .and ∨ AluOp.xor = .or ∨ AluOp.xor = .xor := by decide
theorem witness_DaaAlgorithm : (start []).fN = false ∧ State.fN { start [] with fN := true } = true := by decide
/-- The smallest and largest operands: 0 + 0 and 99 + 99. -/
theorem witness_DaaCorrectsAddition :
    (0 < 100 ∧ (start []).a = bcd 0) ∧ (99 < 100 ∧ State.a { start [] with a := 0x99 } = bcd 99) := by decide
theorem witness_DaaCorrectsSubtraction :
    (0 < 100 ∧ (start []).a = bcd 0) ∧ (99 < 100 ∧ State.a { start [] with a := 0x99 } = bcd 99) := by decide
theorem witness_RotatesOfA :
    ((Instr.rra, ShiftOp.rr) : Instr × ShiftOp) ∈ [(.rlca, .rlc), (.rla, .rl), (.rrca, .rrc), (.rra, .rr)] := by decide
/-- A condition that holds and one that does not. -/
theorem witness_ConditionalAndRelativeJumps :
    ((Cond.nz, true) : Cond × Bool) ∈ [(Cond.nz, !(start []).fZ), (.z, (start []).fZ), (.nc, !(start []).fC), (.c, (start []).fC)] ∧
    ((Cond.c, false) : Cond × Bool) ∈ [(Cond.nz, !(start []).fZ), (.z, (start []).fZ), (.nc, !(start []).fC), (.c, (start []).fC)] := by decide
theorem witness_CallsAndRestarts :
    ((Cond.nc, true) : Cond × Bool) ∈ [(Cond.nz, !(start []).fZ), (.z, (start []).fZ), (.nc, !(start []).fC), (.c, (start []).fC)] ∧
    ((Cond.z, false) : Cond × Bool) ∈ [(Cond.nz, !(start []).fZ), (.z, (start []).fZ), (.nc, !(start []).fC), (.c, (start []).fC)] := by decide
theorem witness_Returns :
    ((Cond.nz, true) : Cond × Bool) ∈ [(Cond.nz, !(start []).fZ), (.z, (start []).fZ), (.nc, !(start []).fC), (.c, (start []).fC)] ∧
    ((Cond.c, false) : Cond × Bool) ∈ [(Cond.nz, !(start []).fZ), (.z, (start []).fZ), (.nc, !(start []).fC), (.c, (start []).fC)] := by decide

end Sys2Proof.Tests
end

section
/-! The forms of the instruction set: every instruction is one the decoder gives, so it is one of the
encoding patterns of 30_encoding.md. A statement about every instruction then has a case per pattern
instead of one per opcode. -/

namespace Sys2Proof

open Machine.State (joinBytes_hi_lo hiByte_joinBytes loByte_joinBytes)

/-- To decode what `encode` writes, it is enough to decode the bytes it evaluates to. -/
theorem decodeBytes_of_encode_eq {i : Instr} {b0 : Byte} {more : List Byte} (he : encode i = b0 :: more)
    (h : decodeBytes b0 (more.getD 0 0) (more.getD 1 0) = some i) :
    decodeBytes ((encode i).getD 0 0) ((encode i).getD 1 0) ((encode i).getD 2 0) = some i := by
  rw [he]; exact h

/-- Decoding the bytes of an instruction gives the instruction (R50 to R63). -/
theorem decodeBytes_encode (i : Instr) :
    decodeBytes ((encode i).getD 0 0) ((encode i).getD 1 0) ((encode i).getD 2 0) = some i := by
  cases i with
  | ld_bc_nn nn | ld_mnn_sp nn | ld_de_nn nn | ld_hl_nn nn | ld_sp_nn nn | jp_nz_nn nn | jp_nn nn | call_nz_nn nn
    | jp_z_nn nn | call_z_nn nn | call_nn nn | jp_nc_nn nn | call_nc_nn nn | jp_c_nn nn | call_c_nn nn
    | ld_mnn_a nn | ld_a_mnn nn =>
    -- an immediate word is read back from its two bytes
    rw [← joinBytes_hi_lo nn]
    refine decodeBytes_of_encode_eq rfl ?_
    rw [hiByte_joinBytes, loByte_joinBytes]
    rfl
  | _ => exact decodeBytes_of_encode_eq rfl rfl

/-- The encoding patterns: a family with its operand codes (R52 to R61), or an instruction of its own. -/
inductive Instr.Form : Instr → Prop where
  | nop : Form .nop
  | stop : Form .stop
  | halt : Form .halt
  | di : Form .di
  | ei : Form .ei
  | daa : Form .daa
  | cpl : Form .cpl
  | scf : Form .scf
  | ccf : Form .ccf
  | ld (x y : Opnd8) (h : x ≠ .mhl ∨ y ≠ .mhl) : Form (.ofLd x y)
  | ldImm (x : Opnd8) (n : Byte) : Form (.ofLdImm x n)
  | ld_mbc_a : Form .ld_mbc_a
  | ld_a_mbc : Form .ld_a_mbc
  | ld_mde_a : Form .ld_mde_a
  | ld_a_mde : Form .ld_a_mde
  | ldi_mhl_a : Form .ldi_mhl_a
  | ldi_a_mhl : Form .ldi_a_mhl
  | ldd_mhl_a : Form .ldd_mhl_a
  | ldd_a_mhl : Form .ldd_a_mhl
  | ldh_mn_a (n : Byte) : Form (.ldh_mn_a n)
  | ldh_a_mn (n : Byte) : Form (.ldh_a_mn n)
  | ld_mc_a : Form .ld_mc_a
  | ld_a_mc : Form .ld_a_mc
  | ld_mnn_a (nn : Word) : Form (.ld_mnn_a nn)
  | ld_a_mnn (nn : Word) : Form (.ld_a_mnn nn)
  | ldPair (p : Pair) (nn : Word) : Form (.ofLdPair p nn)
  | ld_mnn_sp (nn : Word) : Form (.ld_mnn_sp nn)
  | ld_sp_hl : Form .ld_sp_hl
  | ldhl_sp_e8 (e8 : Byte) : Form (.ldhl_sp_e8 e8)
  | push (p : StackPair) : Form (.ofPush p)
  | pop (p : StackPair) : Form (.ofPop p)
  | alu (op : AluOp) (o : Opnd8) : Form (.ofAlu op o)
  | aluImm (op : AluOp) (n : Byte) : Form (.ofAluImm op n)
  | inc (o : Opnd8) : Form (.ofInc o)
  | dec (o : Opnd8) : Form (.ofDec o)
  | addHl (p : Pair) : Form (.ofAddHl p)
  | incPair (p : Pair) : Form (.ofIncPair p)
  | decPair (p : Pair) : Form (.ofDecPair p)
  | add_sp_e8 (e8 : Byte) : Form (.add_sp_e8 e8)
  | rotA (op : RotAOp) : Form (.ofRotA op)
  | shift (op : ShiftOp) (o : Opnd8) : Form (.ofShift op o)
  | bit (k : Fin 8) (o : Opnd8) : Form (.ofBit k o)
  | res (k : Fin 8) (o : Opnd8) : Form (.ofRes k o)
  | set (k : Fin 8) (o : Opnd8) : Form (.ofSet k o)
  | jp_nn (nn : Word) : Form (.jp_nn nn)
  | jp (cc : Cond) (nn : Word) : Form (.ofJp cc nn)
  | jp_hl : Form .jp_hl
  | jr_e8 (e8 : Byte) : Form (.jr_e8 e8)
  | jr (cc : Cond) (e8 : Byte) : Form (.ofJr cc e8)
  | call_nn (nn : Word) : Form (.call_nn nn)
  | call (cc : Cond) (nn : Word) : Form (.ofCall cc nn)
  | rst (k : Fin 8) : Form (.ofRst k)
  | ret : Form .ret
  | retIf (cc : Cond) : Form (.ofRet cc)
  | reti : Form .reti

namespace Instr.Form

theorem of_decodeCB (b1 : Byte) : (decodeCB b1).Form := by
  unfold decodeCB
  split
  · exact .shift _ _
  · exact .bit _ _
  · exact .res _ _
  · exact .set _ _

theorem of_decodeQuadrant0 {y z : Nat} {b1 b2 : Byte} {i : Instr} (h : decodeQuadrant0 y z b1 b2 = some i) : i.Form := by
  unfold decodeQuadrant0 at h
  split at h
  · split at h
    · cases h; exact .nop
    · cases h; exact .ld_mnn_sp _
    · split at h <;> cases h
      exact .stop
    · cases h; exact .jr_e8 _
    · cases h; exact .jr _ _
  · split at h <;> cases h
    · exact .ldPair _ _
    · exact .addHl _
  · split at h <;> cases h
    · exact .ld_mbc_a
    · exact .ld_a_mbc
    · exact .ld_mde_a
    · exact .ld_a_mde
    · exact .ldi_mhl_a
    · exact .ldi_a_mhl
    · exact .ldd_mhl_a
    · exact .ldd_a_mhl
  · split at h <;> cases h
    · exact .incPair _
    · exact .decPair _
  · cases h; exact .inc _
  · cases h; exact .dec _
  · cases h; exact .ldImm _ _
  · split at h <;> cases h
    · exact .daa
    · exact .cpl
    · exact .scf
    · exact .ccf
    · exact .rotA _

theorem of_decodeQuadrant3 {y z : Nat} {b1 b2 : Byte} {i : Instr} (h : decodeQuadrant3 y z b1 b2 = some i) : i.Form := by
  unfold decodeQuadrant3 at h
  split at h
  · split at h <;> cases h
    · exact .ldh_mn_a _
    · exact .add_sp_e8 _
    · exact .ldh_a_mn _
    · exact .ldhl_sp_e8 _
    · exact .retIf _
  · split at h <;> cases h
    · exact .ret
    · exact .reti
    · exact .jp_hl
    · exact .ld_sp_hl
    · exact .pop _
  · split at h <;> cases h
    · exact .ld_mc_a
    · exact .ld_mnn_a _
    · exact .ld_a_mc
    · exact .ld_a_mnn _
    · exact .jp _ _
  · split at h <;> cases h
    · exact .jp_nn _
    · exact of_decodeCB _
    · exact .di
    · exact .ei
  · split at h <;> cases h
    exact .call _ _
  · split at h <;> cases h
    · exact .call_nn _
    · exact .push _
  · cases h; exact .aluImm _ _
  · cases h; exact .rst _

/-- The pattern of the loads is a load but for `LD (HL),(HL)`, whose byte is HALT (R73, C6). -/
theorem of_ofLd (x y : Opnd8) : (Instr.ofLd x y).Form := by
  by_cases h : x = .mhl ∧ y = .mhl
  · obtain ⟨rfl, rfl⟩ := h; exact .halt
  · exact .ld x y (not_and_or.mp h)

theorem of_decodeBytes {b0 b1 b2 : Byte} {i : Instr} (h : decodeBytes b0 b1 b2 = some i) : i.Form := by
  unfold decodeBytes at h
  split at h
  · exact of_decodeQuadrant0 h
  · cases h; exact of_ofLd _ _
  · cases h; exact .alu _ _
  · exact of_decodeQuadrant3 h

end Instr.Form

/-- Every instruction has one of the forms. -/
theorem Instr.form (i : Instr) : i.Form := Form.of_decodeBytes (decodeBytes_encode i)

end Sys2Proof
end

section
/-! The flag table R16: the row of each form, and for each shared operation of the meanings the row it follows.
What an operation computes of the flags follows its row already as a function of values. -/

namespace Sys2Proof.Machine

/-- The flags went from `old` to `new` as a row of R16 allows. -/
def FlagRow.allows (r : FlagRow) (old new : Flags) : Prop :=
  r.z.allows old.z new.z ∧ r.n.allows old.n new.n ∧ r.h.allows old.h new.h ∧ r.c.allows old.c new.c

/-- The row of the instructions that are not in the table. -/
def FlagRow.unlisted : FlagRow := ⟨.kept, .kept, .kept, .kept⟩

/-- The rows of ADD, ADC, SUB, SBC, AND, XOR, OR and CP. -/
def aluRow (op : AluOp) : FlagRow :=
  match op with
  | .add | .adc => ⟨.computed, .reset, .computed, .computed⟩
  | .sub | .sbc | .cp => ⟨.computed, .set, .computed, .computed⟩
  | .and => ⟨.computed, .reset, .set, .reset⟩
  | .xor | .or => ⟨.computed, .reset, .reset, .reset⟩

/-- The rows of the rotates, shifts and SWAP: C is computed, but SWAP resets it. -/
def shiftRow (op : ShiftOp) : FlagRow :=
  match op with
  | .swap => ⟨.computed, .reset, .reset, .reset⟩
  | _ => ⟨.computed, .reset, .reset, .computed⟩

theorem FlagRow.unlisted_allows_iff (old new : Flags) : unlisted.allows old new ↔ new = old := by
  cases old; cases new
  simp [allows, unlisted, FlagEffect.allows]

/-! ## The rows of the forms -/

section
variable (x y o : Opnd8) (p : Pair) (q : StackPair) (cc : Cond) (k : Fin 8) (n e8 : Byte) (nn : Word)

@[simp] theorem flagRow_ofLd : flagRow (.ofLd x y) = .unlisted := by cases x <;> cases y <;> rfl
@[simp] theorem flagRow_ofLdImm : flagRow (.ofLdImm x n) = .unlisted := by cases x <;> rfl
@[simp] theorem flagRow_ofLdPair : flagRow (.ofLdPair p nn) = .unlisted := by cases p <;> rfl
@[simp] theorem flagRow_ofPush : flagRow (.ofPush q) = .unlisted := by cases q <;> rfl
@[simp] theorem flagRow_ofIncPair : flagRow (.ofIncPair p) = .unlisted := by cases p <;> rfl
@[simp] theorem flagRow_ofDecPair : flagRow (.ofDecPair p) = .unlisted := by cases p <;> rfl
@[simp] theorem flagRow_ofJp : flagRow (.ofJp cc nn) = .unlisted := by cases cc <;> rfl
@[simp] theorem flagRow_ofJr : flagRow (.ofJr cc e8) = .unlisted := by cases cc <;> rfl
@[simp] theorem flagRow_ofCall : flagRow (.ofCall cc nn) = .unlisted := by cases cc <;> rfl
@[simp] theorem flagRow_ofRet : flagRow (.ofRet cc) = .unlisted := by cases cc <;> rfl
@[simp] theorem flagRow_ofRst : flagRow (.ofRst k) = .unlisted := by fin_cases k <;> rfl
@[simp] theorem flagRow_ofRes : flagRow (.ofRes k o) = .unlisted := by fin_cases k <;> cases o <;> rfl
@[simp] theorem flagRow_ofSet : flagRow (.ofSet k o) = .unlisted := by fin_cases k <;> cases o <;> rfl

theorem flagRow_ofPop_of_ne_af (h : q ≠ .af) : flagRow (.ofPop q) = .unlisted := by
  cases q with
  | af => exact absurd rfl h
  | _ => rfl

@[simp] theorem flagRow_ofAlu (op : AluOp) : flagRow (.ofAlu op o) = aluRow op := by cases op <;> cases o <;> rfl
@[simp] theorem flagRow_ofAluImm (op : AluOp) : flagRow (.ofAluImm op n) = aluRow op := by cases op <;> rfl
@[simp] theorem flagRow_ofShift (op : ShiftOp) : flagRow (.ofShift op o) = shiftRow op := by
  cases op <;> cases o <;> rfl
@[simp] theorem flagRow_ofRotA (op : RotAOp) : flagRow (.ofRotA op) = ⟨.computed, .reset, .reset, .computed⟩ := by
  cases op <;> rfl
@[simp] theorem flagRow_ofInc : flagRow (.ofInc o) = ⟨.computed, .reset, .computed, .kept⟩ := by cases o <;> rfl
@[simp] theorem flagRow_ofDec : flagRow (.ofDec o) = ⟨.computed, .set, .computed, .kept⟩ := by cases o <;> rfl
@[simp] theorem flagRow_ofAddHl : flagRow (.ofAddHl p) = ⟨.kept, .reset, .computed, .computed⟩ := by cases p <;> rfl
@[simp] theorem flagRow_ofBit : flagRow (.ofBit k o) = ⟨.computed, .reset, .set, .kept⟩ := by
  fin_cases k <;> cases o <;> rfl

end

/-! ## The operations that keep all four flags -/

namespace State

variable (s : State)

@[simp] theorem load8_flags (x y : Opnd8) : (s.load8 x y).flags = s.flags := by simp [flags]
@[simp] theorem loadImm8_flags (x : Opnd8) (n : Byte) : (s.loadImm8 x n).flags = s.flags := by simp [flags]
@[simp] theorem loadA_flags (x len : Word) : (s.loadA x len).flags = s.flags := by simp [flags]
@[simp] theorem storeA_flags (x len : Word) : (s.storeA x len).flags = s.flags := by simp [flags]
@[simp] theorem loadAStep_flags (k : Word) : (s.loadAStep k).flags = s.flags := by simp [flags]
@[simp] theorem storeAStep_flags (k : Word) : (s.storeAStep k).flags = s.flags := by simp [flags]
@[simp] theorem loadPair_flags (p : Pair) (nn : Word) : (s.loadPair p nn).flags = s.flags := by simp [flags]
@[simp] theorem storeSP_flags (nn : Word) : (s.storeSP nn).flags = s.flags := by simp [flags]
@[simp] theorem push_flags (p : StackPair) : (s.push p).flags = s.flags := by simp [flags]
theorem pop_flags_of_ne_af (p : StackPair) (h : p ≠ .af) : (s.pop p).flags = s.flags := by simp [flags, h]
@[simp] theorem incPair_flags (p : Pair) : (s.incPair p).flags = s.flags := by simp [flags]
@[simp] theorem decPair_flags (p : Pair) : (s.decPair p).flags = s.flags := by simp [flags]
@[simp] theorem setBit8_flags (k : Fin 8) (o : Opnd8) : (s.setBit8 k o).flags = s.flags := by simp [flags]
@[simp] theorem resetBit_flags (k : Fin 8) (o : Opnd8) : (s.resetBit k o).flags = s.flags := by simp [flags]
@[simp] theorem jumpIf_flags (cc : Cond) (nn : Word) : (s.jumpIf cc nn).flags = s.flags := by simp [flags]
@[simp] theorem jumpRel_flags (e8 : Byte) : (s.jumpRel e8).flags = s.flags := by simp [flags]
@[simp] theorem jumpRelIf_flags (cc : Cond) (e8 : Byte) : (s.jumpRelIf cc e8).flags = s.flags := by simp [flags]
@[simp] theorem call_flags (x len : Word) : (s.call x len).flags = s.flags := by simp [flags]
@[simp] theorem callIf_flags (cc : Cond) (nn : Word) : (s.callIf cc nn).flags = s.flags := by simp [flags]
@[simp] theorem ret_flags : s.ret.flags = s.flags := by simp [flags]
@[simp] theorem retIf_flags (cc : Cond) : (s.retIf cc).flags = s.flags := by simp [flags]
@[simp] theorem returnFromInterrupt_flags : s.returnFromInterrupt.flags = s.flags := by simp [flags]
@[simp] theorem disableInterrupts_flags : s.disableInterrupts.flags = s.flags := by simp [flags]

end State

/-! ## The operations of the table's rows -/

theorem aluRow_allows_aluResult (op : AluOp) (a v : Byte) (c : Bool) (old : Flags) :
    (aluRow op).allows old (aluResult op a v c).2 := by
  cases op <;> simp [FlagRow.allows, FlagEffect.allows, aluRow, aluResult, addWith, subWith, logicFlags]

theorem shiftRow_allows_shiftResult (op : ShiftOp) (v : Byte) (c : Bool) (old : Flags) :
    (shiftRow op).allows old (shiftFlags (shiftResult op v c).1 (shiftResult op v c).2) := by
  cases op <;> simp [FlagRow.allows, FlagEffect.allows, shiftRow, shiftFlags, shiftResult]

namespace State

variable (s : State)

theorem alu_follows (op : AluOp) (o : Opnd8) : (aluRow op).allows s.flags (s.alu op o).flags :=
  aluRow_allows_aluResult ..
theorem aluImm_follows (op : AluOp) (n : Byte) : (aluRow op).allows s.flags (s.aluImm op n).flags :=
  aluRow_allows_aluResult ..
theorem shift8_follows (op : ShiftOp) (o : Opnd8) : (shiftRow op).allows s.flags (s.shift8 op o).flags :=
  shiftRow_allows_shiftResult ..
theorem rotateA_follows (op : RotAOp) :
    FlagRow.allows ⟨.computed, .reset, .reset, .computed⟩ s.flags (s.rotateA op).flags :=
  ⟨trivial, s.rotateA_fN op, s.rotateA_fH op, trivial⟩
theorem inc8_follows (o : Opnd8) : FlagRow.allows ⟨.computed, .reset, .computed, .kept⟩ s.flags (s.inc8 o).flags :=
  ⟨trivial, s.inc8_fN o, trivial, s.inc8_fC o⟩
theorem dec8_follows (o : Opnd8) : FlagRow.allows ⟨.computed, .set, .computed, .kept⟩ s.flags (s.dec8 o).flags :=
  ⟨trivial, s.dec8_fN o, trivial, s.dec8_fC o⟩
theorem addHl_follows (p : Pair) :
    FlagRow.allows ⟨.kept, .reset, .computed, .computed⟩ s.flags (s.addHl p).flags :=
  ⟨s.addHl_fZ p, s.addHl_fN p, trivial, trivial⟩
theorem addSp_follows (e8 : Byte) :
    FlagRow.allows ⟨.reset, .reset, .computed, .computed⟩ s.flags (s.addSp e8).flags :=
  ⟨s.addSp_fZ e8, s.addSp_fN e8, trivial, trivial⟩
theorem loadHlSp_follows (e8 : Byte) :
    FlagRow.allows ⟨.reset, .reset, .computed, .computed⟩ s.flags (s.loadHlSp e8).flags :=
  ⟨s.loadHlSp_fZ e8, s.loadHlSp_fN e8, trivial, trivial⟩
theorem testBit_follows (k : Fin 8) (o : Opnd8) :
    FlagRow.allows ⟨.computed, .reset, .set, .kept⟩ s.flags (s.testBit k o).flags :=
  ⟨trivial, s.testBit_fN k o, s.testBit_fH k o, s.testBit_fC k o⟩
theorem decimalAdjust_follows :
    FlagRow.allows ⟨.computed, .kept, .reset, .computed⟩ s.flags s.decimalAdjust.flags :=
  ⟨trivial, s.decimalAdjust_fN, s.decimalAdjust_fH, trivial⟩
theorem complementA_follows : FlagRow.allows ⟨.kept, .set, .set, .kept⟩ s.flags s.complementA.flags :=
  ⟨s.complementA_fZ, s.complementA_fN, s.complementA_fH, s.complementA_fC⟩
theorem setCarry_follows : FlagRow.allows ⟨.kept, .reset, .reset, .set⟩ s.flags s.setCarry.flags :=
  ⟨s.setCarry_fZ, s.setCarry_fN, s.setCarry_fH, s.setCarry_fC⟩
theorem complementCarry_follows :
    FlagRow.allows ⟨.kept, .reset, .reset, .computed⟩ s.flags s.complementCarry.flags :=
  ⟨s.complementCarry_fZ, s.complementCarry_fN, s.complementCarry_fH, trivial⟩

end State

/-! ## Every instruction follows the table -/

/-- An instruction whose row is `r` follows the table when the state it ends in does what `r` says. -/
theorem flagRow_allows_of_exec {i : Instr} {s t u : State} {r : FlagRow} (h : exec i s = .next t)
    (hx : exec i s = .next u) (hr : flagRow i = r) (hu : r.allows s.flags u.flags) : (flagRow i).allows s.flags t.flags := by
  cases h.symm.trans hx
  exact hr ▸ hu

/-- An instruction in no row follows the table when it keeps the flags. -/
theorem flagRow_allows_of_keeps {i : Instr} {s t u : State} (h : exec i s = .next t) (hx : exec i s = .next u)
    (hr : flagRow i = .unlisted) (hu : u.flags = s.flags) : (flagRow i).allows s.flags t.flags :=
  flagRow_allows_of_exec h hx hr ((FlagRow.unlisted_allows_iff _ _).mpr hu)

/-- The flags after any instruction, form by form. -/
theorem exec_flags_follow_table {i : Instr} {s t : State} (h : exec i s = .next t) :
    (flagRow i).allows s.flags t.flags := by
  cases i.form with
  | nop => exact flagRow_allows_of_keeps h rfl rfl (s.advance_flags 1)
  | stop => exact flagRow_allows_of_keeps h rfl rfl ((s.advance 2).enter_flags .stopped)
  | halt => exact flagRow_allows_of_keeps h rfl rfl ((s.advance 1).enter_flags .halted)
  | di => exact flagRow_allows_of_keeps h rfl rfl s.disableInterrupts_flags
  | ei => exact flagRow_allows_of_keeps h rfl rfl ((s.advance 1).schedule_flags .enable)
  | daa => exact flagRow_allows_of_exec h rfl rfl s.decimalAdjust_follows
  | cpl => exact flagRow_allows_of_exec h rfl rfl s.complementA_follows
  | scf => exact flagRow_allows_of_exec h rfl rfl s.setCarry_follows
  | ccf => exact flagRow_allows_of_exec h rfl rfl s.complementCarry_follows
  | ld x y hxy => exact flagRow_allows_of_keeps h (exec_ofLd x y hxy s) (flagRow_ofLd x y) (s.load8_flags x y)
  | ldImm x n => exact flagRow_allows_of_keeps h (exec_ofLdImm x n s) (flagRow_ofLdImm x n) (s.loadImm8_flags x n)
  | ld_mbc_a => exact flagRow_allows_of_keeps h rfl rfl (s.storeA_flags s.bc 1)
  | ld_a_mbc => exact flagRow_allows_of_keeps h rfl rfl (s.loadA_flags s.bc 1)
  | ld_mde_a => exact flagRow_allows_of_keeps h rfl rfl (s.storeA_flags s.de 1)
  | ld_a_mde => exact flagRow_allows_of_keeps h rfl rfl (s.loadA_flags s.de 1)
  | ldi_mhl_a => exact flagRow_allows_of_keeps h rfl rfl (s.storeAStep_flags 1)
  | ldi_a_mhl => exact flagRow_allows_of_keeps h rfl rfl (s.loadAStep_flags 1)
  | ldd_mhl_a => exact flagRow_allows_of_keeps h rfl rfl (s.storeAStep_flags (-1))
  | ldd_a_mhl => exact flagRow_allows_of_keeps h rfl rfl (s.loadAStep_flags (-1))
  | ldh_mn_a n => exact flagRow_allows_of_keeps h rfl rfl (s.storeA_flags (highPage n) 2)
  | ldh_a_mn n => exact flagRow_allows_of_keeps h rfl rfl (s.loadA_flags (highPage n) 2)
  | ld_mc_a => exact flagRow_allows_of_keeps h rfl rfl (s.storeA_flags (highPage s.c) 1)
  | ld_a_mc => exact flagRow_allows_of_keeps h rfl rfl (s.loadA_flags (highPage s.c) 1)
  | ld_mnn_a nn => exact flagRow_allows_of_keeps h rfl rfl (s.storeA_flags nn 3)
  | ld_a_mnn nn => exact flagRow_allows_of_keeps h rfl rfl (s.loadA_flags nn 3)
  | ldPair p nn => exact flagRow_allows_of_keeps h (exec_ofLdPair p nn s) (flagRow_ofLdPair p nn) (s.loadPair_flags p nn)
  | ld_mnn_sp nn => exact flagRow_allows_of_keeps h rfl rfl (s.storeSP_flags nn)
  | ld_sp_hl => exact flagRow_allows_of_keeps h rfl rfl (s.setSP_flags s.hl)
  | ldhl_sp_e8 e8 => exact flagRow_allows_of_exec h rfl rfl (s.loadHlSp_follows e8)
  | push p => exact flagRow_allows_of_keeps h (exec_ofPush p s) (flagRow_ofPush p) (s.push_flags p)
  | pop p =>
    by_cases hp : p = .af
    · subst hp
      exact flagRow_allows_of_exec h rfl rfl ⟨trivial, trivial, trivial, trivial⟩
    · exact flagRow_allows_of_keeps h (exec_ofPop p s) (flagRow_ofPop_of_ne_af p hp) (s.pop_flags_of_ne_af p hp)
  | alu op o => exact flagRow_allows_of_exec h (exec_ofAlu op o s) (flagRow_ofAlu o op) (s.alu_follows op o)
  | aluImm op n => exact flagRow_allows_of_exec h (exec_ofAluImm op n s) (flagRow_ofAluImm n op) (s.aluImm_follows op n)
  | inc o => exact flagRow_allows_of_exec h (exec_ofInc o s) (flagRow_ofInc o) (s.inc8_follows o)
  | dec o => exact flagRow_allows_of_exec h (exec_ofDec o s) (flagRow_ofDec o) (s.dec8_follows o)
  | addHl p => exact flagRow_allows_of_exec h (exec_ofAddHl p s) (flagRow_ofAddHl p) (s.addHl_follows p)
  | incPair p => exact flagRow_allows_of_keeps h (exec_ofIncPair p s) (flagRow_ofIncPair p) (s.incPair_flags p)
  | decPair p => exact flagRow_allows_of_keeps h (exec_ofDecPair p s) (flagRow_ofDecPair p) (s.decPair_flags p)
  | add_sp_e8 e8 => exact flagRow_allows_of_exec h rfl rfl (s.addSp_follows e8)
  | rotA op => exact flagRow_allows_of_exec h (exec_ofRotA op s) (flagRow_ofRotA op) (s.rotateA_follows op)
  | shift op o => exact flagRow_allows_of_exec h (exec_ofShift op o s) (flagRow_ofShift o op) (s.shift8_follows op o)
  | bit k o => exact flagRow_allows_of_exec h (exec_ofBit k o s) (flagRow_ofBit o k) (s.testBit_follows k o)
  | res k o => exact flagRow_allows_of_keeps h (exec_ofRes k o s) (flagRow_ofRes o k) (s.resetBit_flags k o)
  | set k o => exact flagRow_allows_of_keeps h (exec_ofSet k o s) (flagRow_ofSet o k) (s.setBit8_flags k o)
  | jp_nn nn => exact flagRow_allows_of_keeps h rfl rfl (s.jump_flags nn)
  | jp cc nn => exact flagRow_allows_of_keeps h (exec_ofJp cc nn s) (flagRow_ofJp cc nn) (s.jumpIf_flags cc nn)
  | jp_hl => exact flagRow_allows_of_keeps h rfl rfl (s.jump_flags s.hl)
  | jr_e8 e8 => exact flagRow_allows_of_keeps h rfl rfl (s.jumpRel_flags e8)
  | jr cc e8 => exact flagRow_allows_of_keeps h (exec_ofJr cc e8 s) (flagRow_ofJr cc e8) (s.jumpRelIf_flags cc e8)
  | call_nn nn => exact flagRow_allows_of_keeps h rfl rfl (s.call_flags nn 3)
  | call cc nn => exact flagRow_allows_of_keeps h (exec_ofCall cc nn s) (flagRow_ofCall cc nn) (s.callIf_flags cc nn)
  | rst k => exact flagRow_allows_of_keeps h (exec_ofRst k s) (flagRow_ofRst k) (s.call_flags _ 1)
  | ret => exact flagRow_allows_of_keeps h rfl rfl s.ret_flags
  | retIf cc => exact flagRow_allows_of_keeps h (exec_ofRet cc s) (flagRow_ofRet cc) (s.retIf_flags cc)
  | reti => exact flagRow_allows_of_keeps h rfl rfl s.returnFromInterrupt_flags

/-- Settles O13: form by form, the operation an instruction runs does what the instruction's row says. -/
theorem flagsFollowTheTable : Obligations.FlagsFollowTheTable := by
  unfold Obligations.FlagsFollowTheTable
  intro i s t h
  exact exec_flags_follow_table h

end Sys2Proof.Machine
end

section
/-! The platform under the instructions: form by form, the accesses are all that reaches it. -/

namespace Sys2Proof.Machine

/-- Every instruction ends in a state that its accesses account for, form by form. -/
theorem exec_accesses (i : Instr) (s : State) : ∃ t, exec i s = .next t ∧ AccessesOnly s t := by
  cases i.form with
  | nop => exact ⟨_, rfl, .of_eq rfl rfl⟩
  | stop => exact ⟨_, rfl, .of_eq rfl rfl⟩
  | halt => exact ⟨_, rfl, .of_eq rfl rfl⟩
  | di => exact ⟨_, rfl, s.disableInterrupts_accesses⟩
  | ei => exact ⟨_, rfl, .of_eq rfl rfl⟩
  | daa => exact ⟨_, rfl, s.decimalAdjust_accesses⟩
  | cpl => exact ⟨_, rfl, s.complementA_accesses⟩
  | scf => exact ⟨_, rfl, s.setCarry_accesses⟩
  | ccf => exact ⟨_, rfl, s.complementCarry_accesses⟩
  | ld x y hxy => exact ⟨_, exec_ofLd x y hxy s, s.load8_accesses x y⟩
  | ldImm x n => exact ⟨_, exec_ofLdImm x n s, s.loadImm8_accesses x n⟩
  | ld_mbc_a => exact ⟨_, rfl, s.storeA_accesses s.bc 1⟩
  | ld_a_mbc => exact ⟨_, rfl, s.loadA_accesses s.bc 1⟩
  | ld_mde_a => exact ⟨_, rfl, s.storeA_accesses s.de 1⟩
  | ld_a_mde => exact ⟨_, rfl, s.loadA_accesses s.de 1⟩
  | ldi_mhl_a => exact ⟨_, rfl, s.storeAStep_accesses 1⟩
  | ldi_a_mhl => exact ⟨_, rfl, s.loadAStep_accesses 1⟩
  | ldd_mhl_a => exact ⟨_, rfl, s.storeAStep_accesses (-1)⟩
  | ldd_a_mhl => exact ⟨_, rfl, s.loadAStep_accesses (-1)⟩
  | ldh_mn_a n => exact ⟨_, rfl, s.storeA_accesses (highPage n) 2⟩
  | ldh_a_mn n => exact ⟨_, rfl, s.loadA_accesses (highPage n) 2⟩
  | ld_mc_a => exact ⟨_, rfl, s.storeA_accesses (highPage s.c) 1⟩
  | ld_a_mc => exact ⟨_, rfl, s.loadA_accesses (highPage s.c) 1⟩
  | ld_mnn_a nn => exact ⟨_, rfl, s.storeA_accesses nn 3⟩
  | ld_a_mnn nn => exact ⟨_, rfl, s.loadA_accesses nn 3⟩
  | ldPair p nn => exact ⟨_, exec_ofLdPair p nn s, s.loadPair_accesses p nn⟩
  | ld_mnn_sp nn => exact ⟨_, rfl, s.storeSP_accesses nn⟩
  | ld_sp_hl => exact ⟨_, rfl, .of_eq rfl rfl⟩
  | ldhl_sp_e8 e8 => exact ⟨_, rfl, s.loadHlSp_accesses e8⟩
  | push p => exact ⟨_, exec_ofPush p s, s.push_accesses p⟩
  | pop p => exact ⟨_, exec_ofPop p s, s.pop_accesses p⟩
  | alu op o => exact ⟨_, exec_ofAlu op o s, s.alu_accesses op o⟩
  | aluImm op n => exact ⟨_, exec_ofAluImm op n s, s.aluImm_accesses op n⟩
  | inc o => exact ⟨_, exec_ofInc o s, s.inc8_accesses o⟩
  | dec o => exact ⟨_, exec_ofDec o s, s.dec8_accesses o⟩
  | addHl p => exact ⟨_, exec_ofAddHl p s, s.addHl_accesses p⟩
  | incPair p => exact ⟨_, exec_ofIncPair p s, s.incPair_accesses p⟩
  | decPair p => exact ⟨_, exec_ofDecPair p s, s.decPair_accesses p⟩
  | add_sp_e8 e8 => exact ⟨_, rfl, s.addSp_accesses e8⟩
  | rotA op => exact ⟨_, exec_ofRotA op s, s.rotateA_accesses op⟩
  | shift op o => exact ⟨_, exec_ofShift op o s, s.shift8_accesses op o⟩
  | bit k o => exact ⟨_, exec_ofBit k o s, s.testBit_accesses k o⟩
  | res k o => exact ⟨_, exec_ofRes k o s, s.resetBit_accesses k o⟩
  | set k o => exact ⟨_, exec_ofSet k o s, s.setBit8_accesses k o⟩
  | jp_nn nn => exact ⟨_, rfl, .of_eq rfl rfl⟩
  | jp cc nn => exact ⟨_, exec_ofJp cc nn s, s.jumpIf_accesses cc nn⟩
  | jp_hl => exact ⟨_, rfl, .of_eq rfl rfl⟩
  | jr_e8 e8 => exact ⟨_, rfl, s.jumpRel_accesses e8⟩
  | jr cc e8 => exact ⟨_, exec_ofJr cc e8 s, s.jumpRelIf_accesses cc e8⟩
  | call_nn nn => exact ⟨_, rfl, s.call_accesses nn 3⟩
  | call cc nn => exact ⟨_, exec_ofCall cc nn s, s.callIf_accesses cc nn⟩
  | rst k => exact ⟨_, exec_ofRst k s, s.call_accesses _ 1⟩
  | ret => exact ⟨_, rfl, s.ret_accesses⟩
  | retIf cc => exact ⟨_, exec_ofRet cc s, s.retIf_accesses cc⟩
  | reti => exact ⟨_, rfl, s.returnFromInterrupt_accesses⟩

/-- What an instruction does to the platform, it does by accesses. -/
theorem AccessesOnly.of_exec {i : Instr} {s t : State} (h : exec i s = .next t) : AccessesOnly s t := by
  obtain ⟨u, hu, ha⟩ := exec_accesses i s
  cases h.symm.trans hu
  exact ha

/-- Settles O18: the accesses of `AccessesOnly.of_exec`, of which the statement is the part about the platform. -/
theorem execTouchesThePlatformOnlyByAccesses : Obligations.ExecTouchesThePlatformOnlyByAccesses := by
  unfold Obligations.ExecTouchesThePlatformOnlyByAccesses
  intro i s t h
  obtain ⟨-, -, hplatform, hbus, hcells⟩ := AccessesOnly.of_exec h
  exact ⟨hplatform, hbus, hcells⟩

end Sys2Proof.Machine
end

section
/-! The accesses of the `(HL)` forms and of the stack: for each, the platform it leaves and the value it loads, in terms of
`memRead` and `memWrite` at the addresses of the state before, in the order of 20_memory.md R34. -/

namespace Sys2Proof.Machine.State

variable (s : State)

/-! ## Accesses and the stack pointer -/

/-- A read does not look at SP. -/
theorem memRead_setSP (x y : Word) : (s.setSP y).memRead x = ((s.memRead x).1, (s.memRead x).2.setSP y) := by
  unfold memRead
  rw [setSP_kindAt]
  cases s.kindAt x <;> rfl

theorem push_platform (p : StackPair) :
    (s.push p).platform = ((s.memWrite (s.sp - 1) (hiByte (s.getStackPair p))).memWrite (s.sp - 2)
      (loByte (s.getStackPair p))).platform := by
  rw [push, advance_platform, push16_spec, setSP_platform]

theorem pop16_platform : s.pop16.2.platform = ((s.memRead s.sp).2.memRead (s.sp + 1)).2.platform := by
  simp only [pop16, memRead_setSP, setSP_platform, setSP_sp, memRead_sp]

theorem pop_platform (p : StackPair) :
    (s.pop p).platform = ((s.memRead s.sp).2.memRead (s.sp + 1)).2.platform := by
  rw [pop, advance_platform, setStackPair_platform, pop16_platform]

/-! ## Loads and stores of a register -/

/-- The registers do not depend on pc. -/
theorem reg_advance (o : Opnd8) (len : Word) (h : o ≠ .mhl) : (s.advance len).reg o = s.reg o := by
  cases o with
  | mhl => exact absurd rfl h
  | _ => rfl

/-- Writing a register operand writes registers only. -/
theorem wr8_frame_of_reg (o : Opnd8) (v : Byte) (h : o ≠ .mhl) :
    s.wr8 o v = { s with
      a := (s.wr8 o v).a, b := (s.wr8 o v).b, c := (s.wr8 o v).c, d := (s.wr8 o v).d
      e := (s.wr8 o v).e, h := (s.wr8 o v).h, l := (s.wr8 o v).l } := by
  cases o with
  | mhl => exact absurd rfl h
  | _ => rfl

theorem load8_reg_dst (dst src : Opnd8) (h : dst ≠ .mhl) : (s.load8 dst src).reg dst = (s.rd8 src).1 := by
  obtain ⟨-, -, hv⟩ := wr8_reg (s.rd8 src).2 dst (s.rd8 src).1 h
  exact (reg_advance _ dst 1 h).trans hv

/-- A load into a register: beyond the read of its source it writes that register. -/
theorem load8_onlyRegs (dst src : Opnd8) (h : dst ≠ .mhl) : OnlyRegs [dst] 1 (s.rd8 src).2 (s.load8 dst src) := by
  refine ⟨congrArg (advance · 1) (wr8_frame_of_reg _ dst _ h), fun o ho hne => ?_⟩
  exact (reg_advance _ o 1 ho).trans (wr8_other _ dst o _ (by simpa using hne) ho)

theorem load8_platform_of_reg_dst (dst src : Opnd8) (h : dst ≠ .mhl) :
    (s.load8 dst src).platform = (s.rd8 src).2.platform := by
  obtain ⟨-, hp, -⟩ := wr8_reg (s.rd8 src).2 dst (s.rd8 src).1 h
  exact hp

/-- A store of a register is one write and no read. -/
theorem load8_mhl_eq (src : Opnd8) (h : src ≠ .mhl) :
    s.load8 .mhl src = (s.memWrite s.hl (s.reg src)).advance 1 := by
  rw [load8, rd8_reg s src h]
  rfl

/-! ## Reads that are written back -/

/-- A write back to `(HL)` goes to the address that was read. -/
theorem wr8_rd8_mhl (w : Byte) : (s.rd8 .mhl).2.wr8 .mhl w = (s.memRead s.hl).2.memWrite s.hl w := by
  rw [wr8_mhl, rd8_hl, rd8_mhl]

end Sys2Proof.Machine.State

namespace Sys2Proof.Machine

/-- The read-modify-write instructions read HL's address once and then write it once (R34). -/
theorem RewritesMhl.exec_platform {i : Instr} (h : RewritesMhl i) (s : State) :
    ∃ t w, exec i s = .next t ∧ t.platform = ((s.memRead s.hl).2.memWrite s.hl w).platform := by
  have rewrites (w : Byte) := congrArg State.platform (s.wr8_rd8_mhl w)
  rcases h with rfl | rfl | ⟨op, rfl⟩ | ⟨k, rfl⟩ | ⟨k, rfl⟩
  · exact ⟨_, _, exec_ofInc .mhl s, rewrites _⟩
  · exact ⟨_, _, exec_ofDec .mhl s, rewrites _⟩
  · exact ⟨_, _, exec_ofShift op .mhl s, rewrites _⟩
  · exact ⟨_, _, exec_ofSet k .mhl s, rewrites _⟩
  · exact ⟨_, _, exec_ofRes k .mhl s, rewrites _⟩

end Sys2Proof.Machine
end

section
/-! What devices and given maps see of one instruction, and what ROM and absent addresses answer (20_memory.md R34, R36,
R37; entries 3, 4). -/

namespace Sys2Proof.Machine

namespace State

variable (s : State)

/-! ## The instructions with one access at HL -/

/-- `LD r,(HL)` loads what one read answers. -/
theorem exec_ofLd_from_mhl (dst : Opnd8) (h : dst ≠ .mhl) :
    ∃ t, exec (.ofLd dst .mhl) s = .next t ∧ t.reg dst = (s.memRead s.hl).1 ∧ t.platform = (s.memRead s.hl).2.platform :=
  ⟨_, exec_ofLd dst .mhl (.inl h) s, s.load8_reg_dst dst .mhl h, s.load8_platform_of_reg_dst dst .mhl h⟩

/-- `LD (HL),r` is one write. -/
theorem exec_ofLd_to_mhl (src : Opnd8) (h : src ≠ .mhl) :
    exec (.ofLd .mhl src) s = .next ((s.memWrite s.hl (s.reg src)).advance 1) := by
  rw [exec_ofLd .mhl src (.inr h), load8_mhl_eq s src h]

/-- The ALU operations on `(HL)` read it once. -/
theorem exec_ofAlu_mhl_platform (op : AluOp) :
    ∃ t, exec (.ofAlu op .mhl) s = .next t ∧ t.platform = (s.memRead s.hl).2.platform :=
  ⟨_, exec_ofAlu op .mhl s, rfl⟩

/-- BIT on `(HL)` reads it once. -/
theorem exec_ofBit_mhl_platform (k : Fin 8) :
    ∃ t, exec (.ofBit k .mhl) s = .next t ∧ t.platform = (s.memRead s.hl).2.platform :=
  ⟨_, exec_ofBit k .mhl s, rfl⟩

/-! ## The log of a device -/

theorem memRead_device_bus (x : Word) (h : s.kindAt x = .device) :
    (s.memRead x).2.platform.bus = .read x (Config.deviceByte s.platform.bus x) :: s.platform.bus := by
  rw [memRead_device s x h, logAccess_platform]

theorem memWrite_device_bus (x : Word) (v : Byte) (h : s.kindAt x = .device) :
    (s.memWrite x v).platform.bus = .write x v :: s.platform.bus := by
  rw [memWrite_device s x v h, logAccess_platform]

end State

/-! ## Each access once, in the order of the spec -/

/-- Settles O26: each instruction's accesses are `memRead` and `memWrite` in the order of R34, and a device logs each
of these once, where a given map answers it by its own `read` or `write`. -/
theorem devicesSeeEachAccessOnce : Obligations.DevicesSeeEachAccessOnce := by
  unfold Obligations.DevicesSeeEachAccessOnce
  intro s
  refine ⟨fun hk => ⟨fun dst hd => ?_, fun src hs => ?_, fun op => ?_, fun k => ?_, fun i hi => ?_⟩,
    fun hk₁ hk₂ p => ?_, fun hk₀ hk₁ p => ?_,
    fun m hk => ⟨fun dst hd => ?_, fun src hs => ?_, fun op => ?_, fun k => ?_, fun i hi => ?_⟩,
    fun m n hk₁ hk₂ p => ?_, fun m n hk₀ hk₁ p => ?_⟩
  · obtain ⟨t, ht, -, hp⟩ := s.exec_ofLd_from_mhl dst hd
    exact ⟨t, ht, by rw [hp, s.memRead_device_bus _ hk]⟩
  · exact ⟨_, s.exec_ofLd_to_mhl src hs, s.memWrite_device_bus _ _ hk⟩
  · obtain ⟨t, ht, hp⟩ := s.exec_ofAlu_mhl_platform op
    exact ⟨t, ht, by rw [hp, s.memRead_device_bus _ hk]⟩
  · obtain ⟨t, ht, hp⟩ := s.exec_ofBit_mhl_platform k
    exact ⟨t, ht, by rw [hp, s.memRead_device_bus _ hk]⟩
  · obtain ⟨t, w, ht, hp⟩ := hi.exec_platform s
    have hk' : (s.memRead s.hl).2.kindAt s.hl = .device := (s.memRead_kindAt _ _).trans hk
    exact ⟨t, w, ht, by rw [hp, State.memWrite_device_bus _ _ _ hk', s.memRead_device_bus _ hk]⟩
  · have hk₂' := (s.memWrite_kindAt (s.sp - 1) (s.sp - 2) (hiByte (s.getStackPair p))).trans hk₂
    exact ⟨_, exec_ofPush p s, by
      rw [s.push_platform, State.memWrite_device_bus _ _ _ hk₂', s.memWrite_device_bus _ _ hk₁]⟩
  · have hk₁' := (s.memRead_kindAt s.sp (s.sp + 1)).trans hk₁
    exact ⟨_, exec_ofPop p s, by
      rw [s.pop_platform, State.memRead_device_bus _ _ hk₁', s.memRead_device_bus _ hk₀]⟩
  · rw [← s.memRead_given _ m hk]
    exact s.exec_ofLd_from_mhl dst hd
  · rw [← s.memWrite_given _ _ m hk]
    exact ⟨_, s.exec_ofLd_to_mhl src hs, rfl⟩
  · rw [← s.memRead_given _ m hk]
    exact s.exec_ofAlu_mhl_platform op
  · rw [← s.memRead_given _ m hk]
    exact s.exec_ofBit_mhl_platform k
  · obtain ⟨t, w, ht, hp⟩ := hi.exec_platform s
    have hk' : (s.memRead s.hl).2.kindAt s.hl = .given m := (s.memRead_kindAt _ _).trans hk
    exact ⟨t, w, ht, by rw [hp, State.memWrite_given _ _ _ m hk', s.memRead_given _ m hk]⟩
  · have hk₂' := (s.memWrite_kindAt (s.sp - 1) (s.sp - 2) (hiByte (s.getStackPair p))).trans hk₂
    rw [← s.memWrite_given _ _ m hk₁, ← State.memWrite_given _ _ _ n hk₂']
    exact ⟨_, exec_ofPush p s, s.push_platform p⟩
  · have hk₁' := (s.memRead_kindAt s.sp (s.sp + 1)).trans hk₁
    rw [← s.memRead_given _ m hk₀, ← State.memRead_given _ _ n hk₁']
    exact ⟨_, exec_ofPop p s, s.pop_platform p⟩

/-! ## Addresses that ignore writes -/

/-- Where a store is ignored, `LD (HL),r` moves `pc` only. -/
theorem exec_ofLd_to_mhl_of_ignored {s : State} (hw : ∀ v, s.memWrite s.hl v = s) (r : Opnd8) (hr : r ≠ .mhl) :
    exec (.ofLd .mhl r) s = .next { s with pc := s.pc + 1 } := by
  rw [s.exec_ofLd_to_mhl r hr, hw]
  rfl

/-- Where a read has no effect, `LD r,(HL)` loads the byte read and writes no other register. -/
theorem exec_ofLd_from_mhl_of_quiet {s : State} {v : Byte} (hread : s.memRead s.hl = (v, s)) (r : Opnd8) (hr : r ≠ .mhl) :
    ∃ t, exec (.ofLd r .mhl) s = .next t ∧ t.reg r = v ∧ OnlyRegs [r] 1 s t := by
  have hrd : s.rd8 .mhl = (v, s) := hread
  have hreg := s.load8_reg_dst r .mhl hr
  have honly := s.load8_onlyRegs r .mhl hr
  rw [hrd] at hreg honly
  exact ⟨_, exec_ofLd r .mhl (.inl hr) s, hreg, honly⟩

/-- Settles O27: ROM and absent addresses ignore writes, and a read there has no effect. -/
theorem romAndAbsentAddresses : Obligations.RomAndAbsentAddresses := by
  unfold Obligations.RomAndAbsentAddresses
  intro s r hr
  refine ⟨fun hk => ⟨?_, ?_⟩, fun v hk => ⟨?_, ?_⟩⟩
  · exact exec_ofLd_to_mhl_of_ignored (fun w => s.memWrite_rom _ w hk) r hr
  · exact exec_ofLd_from_mhl_of_quiet (s.memRead_stored _ (.inr hk)) r hr
  · exact exec_ofLd_to_mhl_of_ignored (fun w => s.memWrite_absent _ w v hk) r hr
  · exact exec_ofLd_from_mhl_of_quiet (s.memRead_absent _ v hk) r hr

end Sys2Proof.Machine
end

section
/-! The decoder and the encoder on lists of bytes (30_encoding.md sections 1, 3, 4 and 6): the decoder looks at no
byte past the instruction's length, so what stands after an encoded instruction is left as it is. -/

namespace Sys2Proof

/-- Quadrant `00` looks only at the bytes the length asks for: byte 1 of `JR`, `STOP` and the loads of an immediate
byte, and both bytes of an immediate word. -/
theorem decodeQuadrant0_congr {b0 b1 b2 c1 c2 : Byte} (hq : field b0 6 2 = 0) (h1 : 1 < lengthOf b0 → b1 = c1)
    (h2 : 2 < lengthOf b0 → b2 = c2) :
    decodeQuadrant0 (field b0 3 3) (field b0 0 3) b1 b2 = decodeQuadrant0 (field b0 3 3) (field b0 0 3) c1 c2 := by
  simp only [lengthOf, hq] at h1 h2
  generalize field b0 3 3 = y at h1 h2 ⊢
  generalize field b0 0 3 = z at h1 h2 ⊢
  unfold decodeQuadrant0
  split
  case h_1 => split <;> simp_all  -- z = 0: LD (nn),SP, STOP, JR
  case h_2 => split <;> simp_all  -- z = 1: LD rr,nn
  case h_7 => simp_all  -- z = 6: LD r,n
  all_goals rfl  -- one byte

/-- Quadrant `11` looks only at the bytes the length asks for: an immediate byte, byte 1 after `CB`,
and both bytes of an immediate word. -/
theorem decodeQuadrant3_congr {b0 b1 b2 c1 c2 : Byte} (hq : field b0 6 2 = 3) (h1 : 1 < lengthOf b0 → b1 = c1)
    (h2 : 2 < lengthOf b0 → b2 = c2) :
    decodeQuadrant3 (field b0 3 3) (field b0 0 3) b1 b2 = decodeQuadrant3 (field b0 3 3) (field b0 0 3) c1 c2 := by
  simp only [lengthOf, hq] at h1 h2
  generalize field b0 3 3 = y at h1 h2 ⊢
  generalize field b0 0 3 = z at h1 h2 ⊢
  unfold decodeQuadrant3
  split
  case h_1 => split <;> simp_all  -- z = 0: LDH, ADD SP,n, LDHL
  case h_3 => split <;> simp_all  -- z = 2: LD (nn),A, LD A,(nn), JP cc
  case h_4 => split <;> simp_all  -- z = 3: JP nn, CB
  case h_5 => split <;> simp_all  -- z = 4: CALL cc
  case h_6 => split <;> simp_all  -- z = 5: CALL nn
  case h_7 => simp_all  -- z = 6: the ALU operations on n
  all_goals rfl  -- one byte

/-- The decoder looks only at the bytes the length asks for (R63). -/
theorem decodeBytes_congr {b0 b1 b2 c1 c2 : Byte} (h1 : 1 < lengthOf b0 → b1 = c1) (h2 : 2 < lengthOf b0 → b2 = c2) :
    decodeBytes b0 b1 b2 = decodeBytes b0 c1 c2 := by
  have hlt : field b0 6 2 < 4 := Nat.mod_lt _ (by decide)
  obtain hq | hq | hq | hq : field b0 6 2 = 0 ∨ field b0 6 2 = 1 ∨ field b0 6 2 = 2 ∨ field b0 6 2 = 3 := by omega
  all_goals simp only [decodeBytes, hq]
  · exact decodeQuadrant0_congr hq h1 h2
  · exact decodeQuadrant3_congr hq h1 h2

/-- Bytes after the instruction's own do not change what is decoded. -/
theorem decodeBytes_append {b0 : Byte} {more : List Byte} (hlen : lengthOf b0 ≤ (b0 :: more).length) (rest : List Byte) :
    decodeBytes b0 ((more ++ rest).getD 0 0) ((more ++ rest).getD 1 0) =
      decodeBytes b0 (more.getD 0 0) (more.getD 1 0) := by
  rw [List.length_cons] at hlen
  exact decodeBytes_congr (fun h => List.getD_append _ _ _ _ (by omega)) (fun h => List.getD_append _ _ _ _ (by omega))

/-- A list that holds the whole of an instruction decodes to it and to the bytes past its length. -/
theorem decode_cons_eq_instr {b0 : Byte} {more : List Byte} {i : Instr} (hlen : lengthOf b0 ≤ (b0 :: more).length)
    (hi : decodeBytes b0 (more.getD 0 0) (more.getD 1 0) = some i) :
    decode (b0 :: more) = .instr i ((b0 :: more).drop (lengthOf b0)) := by
  unfold decode
  simp only [if_neg (Nat.not_lt.mpr hlen), hi]

/-- Byte 0 of an encoding gives its length (R51, R63). -/
theorem encode_head_length (i : Instr) : Laws.EncodingLength.Statement i := by
  cases i <;> exact ⟨_, _, rfl, rfl⟩

end Sys2Proof

namespace Sys2Proof.Machine

/-- Settles O5: the decoder looks at no byte past the encoding, and gives the instruction back from the encoding's
own bytes. -/
theorem decodeOfEncode : Obligations.DecodeOfEncode := by
  unfold Obligations.DecodeOfEncode
  intro i rest _
  obtain ⟨b0, more, he, hlen⟩ := encode_head_length i
  have hi := decodeBytes_encode i
  rw [he] at hi hlen ⊢
  have hi' : decodeBytes b0 ((more ++ rest).getD 0 0) ((more ++ rest).getD 1 0) = some i :=
    (decodeBytes_append hlen.le rest).trans hi
  have hlen' : lengthOf b0 ≤ (b0 :: (more ++ rest)).length := by simp [hlen]
  calc decode (b0 :: (more ++ rest))
      _ = .instr i ((b0 :: more ++ rest).drop (lengthOf b0)) := decode_cons_eq_instr hlen' hi'
      _ = .instr i rest := by rw [hlen, List.drop_left]

/-- Settles O7: seven of the words are what the encoder writes, and `D3` is one of the unlisted bytes. -/
theorem listedWordsDecode : Obligations.ListedWordsDecode := by
  unfold Obligations.ListedWordsDecode
  exact ⟨decodeOfEncode .ld_a_b [] rfl, decodeOfEncode (.ld_mhl_n 0xFF) [] rfl,
    decodeOfEncode (.ld_a_mnn 0x1234) [] rfl, decodeOfEncode .bit_7_h [] rfl, decodeOfEncode .set_3_mhl [] rfl,
    decodeOfEncode (.sbc_a_n 0x0F) [] rfl, decodeOfEncode .stop [] rfl, rfl⟩

end Sys2Proof.Machine
end

section
/-! The 8-bit loads (40_loads8.md): for each shared operation, what it loads or stores and that it does nothing else. -/

namespace Sys2Proof

/-- The address of the short forms as a sum that does not wrap (R82, R83, R88, R89). -/
theorem highPage_eq_ofNat (v : Byte) : highPage v = BitVec.ofNat 16 (0xFF00 + v.toNat) := by
  rw [BitVec.ofNat_add, BitVec.ofNat_toNat]
  rfl

/-! ## Encodings and printed figures of the two load patterns -/

/-- `01 ddd sss`, with HALT in the place of `LD (HL),(HL)` (R71 to R73). -/
theorem encode_ofLd (dst src : Opnd8) :
    encode (.ofLd dst src) = [BitVec.ofNat 8 (0x40 + 8 * dst.code + src.code)] := by
  cases dst <;> cases src <;> rfl

/-- `00 ddd 110` and the byte (R70, R74, R78). -/
theorem encode_ofLdImm (dst : Opnd8) (n : Byte) :
    encode (.ofLdImm dst n) = [BitVec.ofNat 8 (0x06 + 8 * dst.code), n] := by
  cases dst <;> rfl

/-- A load between registers, and HALT, is printed with 4 cycles, a load with one operand `(HL)` with 8. -/
theorem cycles_ofLd (dst src : Opnd8) : (Instr.ofLd dst src).cycles = if dst = .mhl ↔ src = .mhl then 4 else 8 := by
  cases dst <;> cases src <;> rfl

theorem cycles_ofLdImm (dst : Opnd8) (n : Byte) : (Instr.ofLdImm dst n).cycles = if dst = .mhl then 12 else 8 := by
  cases dst <;> rfl

end Sys2Proof

namespace Sys2Proof.Machine

/-- Equal memories read the same. -/
theorem KeepsMemory.of_mem_eq {s t : State} (h : t.mem = s.mem) : KeepsMemory s t :=
  fun x => congrArg (·.read x.toNat) h

namespace State

variable (s : State)

/-! ## Loads of a register -/

/-- Writing a register as an instruction's last effect writes that register only. -/
theorem wr8_advance_loads (dst : Opnd8) (v : Byte) (len : Word) (h : dst ≠ .mhl) :
    ((s.wr8 dst v).advance len).reg dst = v ∧ OnlyRegs [dst] len s ((s.wr8 dst v).advance len) ∧
      KeepsMemory s ((s.wr8 dst v).advance len) := by
  obtain ⟨hmem, -, hreg⟩ := s.wr8_reg dst v h
  have hframe := congrArg (advance · len) (s.wr8_frame_of_reg dst v h)
  have hother (o : Opnd8) (ho : o ≠ .mhl) (hne : o ∉ [dst]) : ((s.wr8 dst v).advance len).reg o = s.reg o :=
    (reg_advance _ o len ho).trans (s.wr8_other dst o v (by simpa using hne) ho)
  exact ⟨(reg_advance _ dst len h).trans hreg, ⟨hframe, hother⟩, .of_mem_eq hmem⟩

/-- A load of a register from another operand: beyond the read it writes that register only. -/
theorem load8_loads (dst src : Opnd8) (h : dst ≠ .mhl) :
    (s.load8 dst src).reg dst = (s.rd8 src).1 ∧ OnlyRegs [dst] 1 (s.rd8 src).2 (s.load8 dst src) ∧
      KeepsMemory s (s.load8 dst src) := by
  obtain ⟨hreg, honly, hmem⟩ := (s.rd8 src).2.wr8_advance_loads dst (s.rd8 src).1 1 h
  exact ⟨hreg, honly, fun x => (hmem x).trans (s.rd8_peek src x)⟩

/-- A load of A from an address: beyond the read it writes A only. -/
theorem loadA_loads (x len : Word) :
    (s.loadA x len).a = (s.memRead x).1 ∧ OnlyRegs [.a] len (s.memRead x).2 (s.loadA x len) ∧
      KeepsMemory s (s.loadA x len) := by
  obtain ⟨ha, honly, hmem⟩ := (s.memRead x).2.wr8_advance_loads .a (s.memRead x).1 len (by decide)
  exact ⟨ha, honly, fun y => (hmem y).trans (s.memRead_peek x y)⟩

@[simp] theorem loadAStep_hl (delta : Word) : (s.loadAStep delta).hl = s.hl + delta := by simp [loadAStep]

/-- LDD and LDI into A: the read is at the old HL; beyond it only A, H and L are written. -/
theorem loadAStep_loads (delta : Word) :
    (s.loadAStep delta).a = (s.memRead s.hl).1 ∧ (s.loadAStep delta).hl = s.hl + delta ∧
      OnlyRegs [.a, .h, .l] 1 (s.memRead s.hl).2 (s.loadAStep delta) ∧ KeepsMemory s (s.loadAStep delta) := by
  have hother (o : Opnd8) (ho : o ≠ .mhl) (hne : o ∉ [Opnd8.a, .h, .l]) :
      (s.loadAStep delta).reg o = (s.memRead s.hl).2.reg o := by
    cases o with
    | a | h | l => exact absurd (by decide) hne
    | mhl => exact absurd rfl ho
    | _ => rfl
  exact ⟨rfl, s.loadAStep_hl delta, ⟨rfl, hother⟩, .of_mem_eq (s.memRead_mem s.hl)⟩

/-! ## Stores -/

/-- One write through the map, then `pc` moved on, stores one byte and does nothing else. -/
theorem memWrite_advance_stores (x : Word) (v : Byte) (len : Word) :
    StoresByte x v len s ((s.memWrite x v).advance len) := by
  have hframe := s.memWrite_frame x v
  have hpc : (s.memWrite x v).advance len = { s.memWrite x v with pc := s.pc + len } := by
    rw [hframe]
    rfl
  exact ⟨hpc, congrArg (advance · len) hframe, fun y => s.memWrite_peek_other x y v, s.memWrite_peek_same x v⟩

/-- LDD and LDI from A do the store at the old HL and, but for H and L, nothing else. -/
theorem storeAStep_eq (delta : Word) :
    { s.storeAStep delta with h := s.h, l := s.l } = (s.memWrite s.hl s.a).advance 1 := by
  rw [storeAStep, s.memWrite_frame s.hl s.a]
  rfl

@[simp] theorem storeAStep_hl (delta : Word) : (s.storeAStep delta).hl = s.hl + delta := by simp [storeAStep]

end State

/-! ## The obligations -/

/-- Settles O29: `LD r,(HL)` is `load8` with the one read at the HL of before as its source. -/
theorem loadRegisterFromMemory : Obligations.LoadRegisterFromMemory := by
  unfold Obligations.LoadRegisterFromMemory
  intro dst s hd
  have hcode : 0x40 + 8 * dst.code + Opnd8.mhl.code = 0x46 + 8 * dst.code := Nat.add_right_comm _ _ _
  refine ⟨?_, ?_, _, exec_ofLd dst .mhl (.inl hd) s, s.load8_loads dst .mhl hd⟩
  · rw [encode_ofLd, hcode]
  · simp [cycles_ofLd, hd]

/-- Settles O30: both forms are one write at HL; the decoder gives HALT back from its byte. -/
theorem storeToMemoryAtHl : Obligations.StoreToMemoryAtHl := by
  unfold Obligations.StoreToMemoryAtHl
  intro s
  refine ⟨fun src hs => ⟨encode_ofLd .mhl src, ?_, _, s.exec_ofLd_to_mhl src hs, s.memWrite_advance_stores _ _ 1⟩,
    fun n => ⟨rfl, rfl, _, rfl, s.memWrite_advance_stores _ n 2⟩, decodeOfEncode .halt [] rfl⟩
  simp [cycles_ofLd, hs]

/-- Settles O32: each of the five is `loadA` at its address. -/
theorem loadAFromAddress : Obligations.LoadAFromAddress := by
  unfold Obligations.LoadAFromAddress
  intro s nn n
  refine ⟨⟨rfl, rfl, rfl, rfl, rfl⟩, ⟨rfl, rfl, rfl, rfl, rfl⟩, fun i addr len hi => ?_⟩
  have hexec : exec i s = .next (s.loadA addr len) := by
    simp only [← highPage_eq_ofNat, List.mem_cons, List.not_mem_nil, or_false, Prod.mk.injEq] at hi
    rcases hi with ⟨rfl, rfl, rfl⟩ | ⟨rfl, rfl, rfl⟩ | ⟨rfl, rfl, rfl⟩ | ⟨rfl, rfl, rfl⟩ | ⟨rfl, rfl, rfl⟩ <;> rfl
  exact ⟨_, hexec, s.loadA_loads addr len⟩

/-- Settles O33: each of the five is `storeA` at its address. -/
theorem storeAToAddress : Obligations.StoreAToAddress := by
  unfold Obligations.StoreAToAddress
  intro s nn n
  refine ⟨⟨rfl, rfl, rfl, rfl, rfl⟩, ⟨rfl, rfl, rfl, rfl, rfl⟩, fun i addr len hi => ?_⟩
  have hexec : exec i s = .next (s.storeA addr len) := by
    simp only [← highPage_eq_ofNat, List.mem_cons, List.not_mem_nil, or_false, Prod.mk.injEq] at hi
    rcases hi with ⟨rfl, rfl, rfl⟩ | ⟨rfl, rfl, rfl⟩ | ⟨rfl, rfl, rfl⟩ | ⟨rfl, rfl, rfl⟩ | ⟨rfl, rfl, rfl⟩ <;> rfl
  exact ⟨_, hexec, s.memWrite_advance_stores addr s.a len⟩

/-- Settles O34: LDD and LDI are `loadAStep` and `storeAStep` by the difference between the new HL and the old. -/
theorem loadAndStepHl : Obligations.LoadAndStepHl := by
  unfold Obligations.LoadAndStepHl
  intro s
  have hsub : s.hl - 1 = s.hl + -1 := sub_eq_add_neg s.hl 1
  refine ⟨rfl, rfl, rfl, rfl, by decide, fun i hl hi => ?_, fun i hl hi => ?_⟩
  · obtain ⟨delta, hexec, rfl⟩ : ∃ delta, exec i s = .next (s.loadAStep delta) ∧ hl = s.hl + delta := by
      simp only [hsub, List.mem_cons, List.not_mem_nil, or_false, Prod.mk.injEq] at hi
      rcases hi with ⟨rfl, rfl⟩ | ⟨rfl, rfl⟩ <;> exact ⟨_, rfl, rfl⟩
    exact ⟨_, hexec, s.loadAStep_loads delta⟩
  · obtain ⟨delta, hexec, rfl⟩ : ∃ delta, exec i s = .next (s.storeAStep delta) ∧ hl = s.hl + delta := by
      simp only [hsub, List.mem_cons, List.not_mem_nil, or_false, Prod.mk.injEq] at hi
      rcases hi with ⟨rfl, rfl⟩ | ⟨rfl, rfl⟩ <;> exact ⟨_, rfl, rfl⟩
    refine ⟨_, hexec, s.storeAStep_hl delta, ?_⟩
    rw [s.storeAStep_eq delta]
    exact s.memWrite_advance_stores s.hl s.a 1

/-- Settles O28: `LD r1,r2` is `load8` with a source whose read has no effect. -/
theorem loadRegisterFromRegister : Obligations.LoadRegisterFromRegister := by
  unfold Obligations.LoadRegisterFromRegister
  intro dst src s hd hs
  obtain ⟨hreg, honly, hmem⟩ := s.load8_loads dst src hd
  rw [s.rd8_reg src hs] at honly
  exact ⟨encode_ofLd dst src, by simp [cycles_ofLd, hd, hs], _, exec_ofLd dst src (.inl hd) s, hreg, honly, hmem⟩

/-- Settles O31: `LD r,n` is `loadImm8`, the write of a register and no access. -/
theorem loadImmediateByte : Obligations.LoadImmediateByte := by
  unfold Obligations.LoadImmediateByte
  intro dst n s hd
  exact ⟨encode_ofLdImm dst n, by simp [cycles_ofLdImm, hd], _, exec_ofLdImm dst n s, s.wr8_advance_loads dst n 2 hd⟩

end Sys2Proof.Machine
end

section
/-! What one step can do, said once, and the canonical form of memory and of the platform cells, which each part of a step
keeps (60_exceptions.md R225, R226, R228, R229; entries 2, 3). -/

namespace Sys2Proof.Machine

/-- What a step can make of `u`, the state the platform's doings leave: run the instruction fetched, take an interrupt,
stay in the low-power state, or awake from it at `pc`. -/
inductive StepsTo (u : State) : State → Prop where
  | instr (i : Instr) (v t : State) (hmode : u.mode = .running) (hnone : u.intTaken = none)
      (hfetch : u.fetch = .instr i v) (hexec : exec i v.applyImePending = .next t) : StepsTo u t
  | interrupt (vector : Word) (w : State) (hmode : u.mode ≠ .stopped) (hime : u.ime = true)
      (hselect : u.intSelect = some (vector, w)) : StepsTo u (w.takeInterrupt vector)
  | sleep (hasleep : u.awake = false) : StepsTo u u
  | wake (hmode : u.mode ≠ .running) (hawake : u.awake = true) (hnone : u.mode = .halted → u.intTaken = none) :
      StepsTo u (u.enter .running)

namespace State

variable {s u t : State}

/-- An interrupt is taken where IME is set and the source selects one. -/
theorem intTaken_eq_some_iff {r : Word × State} : s.intTaken = some r ↔ s.ime = true ∧ s.intSelect = some r := by
  simp [intTaken]

theorem stepsTo_of_intTaken {r : Word × State} (hmode : u.mode ≠ .stopped) (hr : u.intTaken = some r) :
    StepsTo u (r.2.takeInterrupt r.1) := by
  obtain ⟨hime, hselect⟩ := intTaken_eq_some_iff.mp hr
  exact .interrupt r.1 r.2 hmode hime hselect

theorem stepsTo_of_executeOne (hmode : u.mode = .running) (hnone : u.intTaken = none) (h : u.executeOne = .next t) :
    StepsTo u t := by
  unfold executeOne at h
  split at h
  · next i v hfetch => exact .instr i v t hmode hnone hfetch h
  · cases h

theorem stepsTo_of_stepMode (h : u.stepMode = .next t) : StepsTo u t := by
  unfold stepMode at h
  split at h
  · next hmode =>
    unfold stepRunning at h
    split at h
    · next hr => cases h; exact stepsTo_of_intTaken (by simp [hmode]) hr
    · next hnone => exact stepsTo_of_executeOne hmode hnone h
  · next hmode =>
    unfold stepHalted at h
    split at h
    · next hpending =>
      split at h
      · next hr => cases h; exact stepsTo_of_intTaken (by simp [hmode]) hr
      · next hnone => cases h; exact .wake (by simp [hmode]) (by simp [awake, hmode, hpending]) fun _ => hnone
    · next hpending => cases h; exact .sleep (by simp [awake, hmode, hpending])
  · next hmode =>
    unfold stepStopped at h
    split at h
    · next hwake => cases h; exact .wake (by simp [hmode]) (by simp [awake, hmode, hwake]) (by simp [hmode])
    · next hwake => cases h; exact .sleep (by simp [awake, hmode, hwake])

end State

/-- Everything a step can do. -/
theorem stepsTo_of_step {s t : State} (h : step s = .next t) : StepsTo s.deliver t := State.stepsTo_of_stepMode h

/-! ## The canonical form -/

/-- `t` is in canonical form where `s` is: its memory, and its platform cells. -/
def KeepsCanonical (s t : State) : Prop :=
  (s.mem.wf = true → t.mem.wf = true) ∧ (s.platform.cells.canonical = true → t.platform.cells.canonical = true)

theorem KeepsCanonical.trans {s t u : State} (h₁ : KeepsCanonical s t) (h₂ : KeepsCanonical t u) : KeepsCanonical s u :=
  ⟨fun h => h₂.1 (h₁.1 h), fun h => h₂.2 (h₁.2 h)⟩

/-- Accesses keep the cells, so it is enough that memory is kept. -/
theorem KeepsCanonical.of_accesses {s t : State} (h : AccessesOnly s t) (hm : s.mem.wf = true → t.mem.wf = true) :
    KeepsCanonical s t := by
  obtain ⟨-, hcells, -⟩ := h
  exact ⟨hm, hcells⟩

/-- Every instruction leaves memory in canonical form, form by form. -/
theorem exec_keeps_wf (i : Instr) {s : State} (h : s.mem.wf = true) : ∃ t, exec i s = .next t ∧ t.mem.wf = true := by
  cases i.form with
  | nop | stop | halt | ei | ld_sp_hl | jp_hl => exact ⟨_, rfl, h⟩
  | jp_nn nn => exact ⟨_, rfl, h⟩
  | di => exact ⟨_, rfl, by simpa using h⟩
  | daa => exact ⟨_, rfl, s.decimalAdjust_wf h⟩
  | cpl => exact ⟨_, rfl, s.complementA_wf h⟩
  | scf => exact ⟨_, rfl, s.setCarry_wf h⟩
  | ccf => exact ⟨_, rfl, s.complementCarry_wf h⟩
  | ld x y hxy => exact ⟨_, exec_ofLd x y hxy s, s.load8_wf x y h⟩
  | ldImm x n => exact ⟨_, exec_ofLdImm x n s, s.loadImm8_wf x n h⟩
  | ld_mbc_a | ld_mde_a | ld_mc_a => exact ⟨_, rfl, s.storeA_wf _ _ h⟩
  | ldh_mn_a n | ld_mnn_a nn => exact ⟨_, rfl, s.storeA_wf _ _ h⟩
  | ld_a_mbc | ld_a_mde | ld_a_mc => exact ⟨_, rfl, s.loadA_wf _ _ h⟩
  | ldh_a_mn n | ld_a_mnn nn => exact ⟨_, rfl, s.loadA_wf _ _ h⟩
  | ldi_mhl_a | ldd_mhl_a => exact ⟨_, rfl, s.storeAStep_wf _ h⟩
  | ldi_a_mhl | ldd_a_mhl => exact ⟨_, rfl, s.loadAStep_wf _ h⟩
  | ldPair p nn => exact ⟨_, exec_ofLdPair p nn s, s.loadPair_wf p nn h⟩
  | ld_mnn_sp nn => exact ⟨_, rfl, s.storeSP_wf nn h⟩
  | ldhl_sp_e8 e8 => exact ⟨_, rfl, s.loadHlSp_wf e8 h⟩
  | push p => exact ⟨_, exec_ofPush p s, s.push_wf p h⟩
  | pop p => exact ⟨_, exec_ofPop p s, s.pop_wf p h⟩
  | alu op o => exact ⟨_, exec_ofAlu op o s, s.alu_wf op o h⟩
  | aluImm op n => exact ⟨_, exec_ofAluImm op n s, s.aluImm_wf op n h⟩
  | inc o => exact ⟨_, exec_ofInc o s, s.inc8_wf o h⟩
  | dec o => exact ⟨_, exec_ofDec o s, s.dec8_wf o h⟩
  | addHl p => exact ⟨_, exec_ofAddHl p s, s.addHl_wf p h⟩
  | incPair p => exact ⟨_, exec_ofIncPair p s, s.incPair_wf p h⟩
  | decPair p => exact ⟨_, exec_ofDecPair p s, s.decPair_wf p h⟩
  | add_sp_e8 e8 => exact ⟨_, rfl, s.addSp_wf e8 h⟩
  | rotA op => exact ⟨_, exec_ofRotA op s, s.rotateA_wf op h⟩
  | shift op o => exact ⟨_, exec_ofShift op o s, s.shift8_wf op o h⟩
  | bit k o => exact ⟨_, exec_ofBit k o s, s.testBit_wf k o h⟩
  | res k o => exact ⟨_, exec_ofRes k o s, s.resetBit_wf k o h⟩
  | set k o => exact ⟨_, exec_ofSet k o s, s.setBit8_wf k o h⟩
  | jp cc nn => exact ⟨_, exec_ofJp cc nn s, s.jumpIf_wf cc nn h⟩
  | jr_e8 e8 => exact ⟨_, rfl, s.jumpRel_wf e8 h⟩
  | jr cc e8 => exact ⟨_, exec_ofJr cc e8 s, s.jumpRelIf_wf cc e8 h⟩
  | call_nn nn => exact ⟨_, rfl, s.call_wf nn 3 h⟩
  | call cc nn => exact ⟨_, exec_ofCall cc nn s, s.callIf_wf cc nn h⟩
  | rst k => exact ⟨_, exec_ofRst k s, s.call_wf _ 1 h⟩
  | ret => exact ⟨_, rfl, s.ret_wf h⟩
  | retIf cc => exact ⟨_, exec_ofRet cc s, s.retIf_wf cc h⟩
  | reti => exact ⟨_, rfl, by simpa using h⟩

namespace KeepsCanonical

theorem of_exec {i : Instr} {s t : State} (h : exec i s = .next t) : KeepsCanonical s t := by
  refine .of_accesses (.of_exec h) fun hm => ?_
  obtain ⟨u, hu, hwf⟩ := exec_keeps_wf i hm
  cases h.symm.trans hu
  exact hwf

theorem of_fetch {i : Instr} {s t : State} (h : s.fetch = .instr i t) : KeepsCanonical s t := by
  obtain ⟨-, hmem, -⟩ := s.fetch_frame i t h
  exact .of_accesses (s.fetch_accesses i t h) fun hm => hmem ▸ hm

theorem of_applyImePending (s : State) : KeepsCanonical s s.applyImePending := by
  rw [s.applyImePending_state]
  exact ⟨id, id⟩

theorem of_intSelect {s : State} {r : Word × State} (h : s.intSelect = some r) : KeepsCanonical s r.2 := by
  obtain ⟨hmem, -⟩ := s.intSelect_wf r h
  exact ⟨hmem, s.intSelect_cells r h⟩

theorem of_takeInterrupt (s : State) (vector : Word) : KeepsCanonical s (s.takeInterrupt vector) :=
  ⟨s.takeInterrupt_wf vector, s.takeInterrupt_cells vector⟩

theorem of_deliver (s : State) : KeepsCanonical s s.deliver := ⟨s.deliver_wf, s.deliver_cells⟩

theorem of_stepsTo {u t : State} (h : StepsTo u t) : KeepsCanonical u t := by
  cases h with
  | instr i v t hmode hnone hfetch hexec => exact ((of_fetch hfetch).trans (of_applyImePending v)).trans (of_exec hexec)
  | interrupt vector w hmode hime hselect => exact (of_intSelect hselect).trans (of_takeInterrupt w vector)
  | sleep hasleep => exact ⟨id, id⟩
  | wake hmode hawake hnone => exact ⟨id, id⟩

end KeepsCanonical

/-- Settles O3: the platform's doings keep the canonical form, and so does everything a step can do after them. -/
theorem stepKeepsCanonicalMemory : Obligations.StepKeepsCanonicalMemory := by
  unfold Obligations.StepKeepsCanonicalMemory
  intro s t h
  exact (KeepsCanonical.of_deliver s).trans (.of_stepsTo (stepsTo_of_step h))

end Sys2Proof.Machine
end

section
/-! Two bytes stored one after the other, and the stack (41_loads16.md R104): `push16` is two stores below SP, `pop16` takes
them back where they lie in RAM, and an interrupt entry is a push of pc (60_exceptions.md R226). -/

namespace Sys2Proof.Machine

/-- F holds all four flags. -/
theorem Flags.ofByte_toByte (f : Flags) : ofByte f.toByte = f := by
  obtain ⟨z, n, h, c⟩ := f
  revert z n h c
  decide

namespace State

variable (s : State)

/-! ## Two stores -/

theorem memWrite_memWrite_frame (x y : Word) (v w : Byte) :
    (s.memWrite x v).memWrite y w = { s with
      mem := ((s.memWrite x v).memWrite y w).mem
      platform := { s.platform with
        bus := ((s.memWrite x v).memWrite y w).platform.bus, cells := ((s.memWrite x v).memWrite y w).platform.cells } } := by
  have hx := s.memWrite_frame x v
  have hy := memWrite_frame (s.memWrite x v) y w
  generalize (s.memWrite x v).memWrite y w = u at hy ⊢
  generalize s.memWrite x v = t at hx hy
  rw [hy, hx]

theorem memWrite_memWrite_peek_other (x y z : Word) (v w : Byte) (hx : z ≠ x) (hy : z ≠ y) :
    ((s.memWrite x v).memWrite y w).peek z = s.peek z :=
  (memWrite_peek_other _ y z w hy).trans (s.memWrite_peek_other x z v hx)

/-- A byte stored in RAM is still there after a store at another address. -/
theorem memWrite_memWrite_peek_fst {x y : Word} (v w : Byte) (hne : x ≠ y) (hm : s.mem.wf = true) (hk : s.kindAt x = .ram) :
    ((s.memWrite x v).memWrite y w).peek x = v :=
  (memWrite_peek_other _ y x w hne).trans (s.memWrite_peek_same x v hk hm)

theorem memWrite_memWrite_peek_snd {x y : Word} (v w : Byte) (hm : s.mem.wf = true) (hk : s.kindAt y = .ram) :
    ((s.memWrite x v).memWrite y w).peek y = w :=
  memWrite_peek_same _ y w ((s.memWrite_kindAt x y v).trans hk) (s.memWrite_wf x v hm)

/-! ## Push -/

/-- A push, then a jump: what CALL, RST, PUSH and the interrupt entry share. -/
theorem push16_jump_pushes (ret target : Word) : PushesAndJumps ret target s ((s.push16 ret).jump target) := by
  have hne : s.sp - 1 ≠ s.sp - 2 := by bv_omega
  rw [push16_spec]
  have hframe := s.memWrite_memWrite_frame (s.sp - 1) (s.sp - 2) (hiByte ret) (loByte ret)
  exact ⟨rfl, congrArg (fun t => (t.setSP (s.sp - 2)).jump target) hframe,
    fun y => s.memWrite_memWrite_peek_other _ _ y _ _,
    s.memWrite_memWrite_peek_fst _ _ hne, s.memWrite_memWrite_peek_snd _ _⟩

theorem push_pushes (p : StackPair) : PushesAndJumps (s.getStackPair p) (s.pc + 1) s (s.push p) := by
  have hpush : s.push p = (s.push16 (s.getStackPair p)).jump (s.pc + 1) := by
    rw [← s.push16_pc (s.getStackPair p)]
    rfl
  exact hpush ▸ s.push16_jump_pushes _ _

theorem takeInterrupt_pushes (vector : Word) :
    PushesAndJumps s.pc vector { s with ime := false, imePending := .none, mode := .running } (s.takeInterrupt vector) :=
  push16_jump_pushes _ _ _

/-! ## Pop -/

/-- The word `pop16` gives is that of the two bytes at the top of the stack. -/
theorem pop16_eq_stackTop :
    s.pop16 = (joinBytes s.stackTop.2.1 s.stackTop.1, s.stackTop.2.2.setSP (s.sp + 2)) := by
  have hsp : s.sp + 1 + 1 = s.sp + 2 := by bv_omega
  simp only [pop16, stackTop, memRead_setSP, setSP_sp, memRead_sp, hsp]
  rfl

@[simp] theorem stackTop_pc : s.stackTop.2.2.pc = s.pc := by simp [stackTop]

@[simp] theorem pop_mem (p : StackPair) : (s.pop p).mem = s.mem := by simp [pop]

/-! ## The pairs of the stack -/

/-- Writing a pair's own value to it changes nothing. -/
theorem setStackPair_getStackPair (p : StackPair) : s.setStackPair p (s.getStackPair p) = s := by
  cases p with
  | bc => simp [setStackPair, getStackPair, setBC, bc]
  | de => simp [setStackPair, getStackPair, setDE, de]
  | hl => simp [setStackPair, getStackPair, setHL, hl]
  | af => simp [setStackPair, getStackPair, setAF, af, f, Flags.ofByte_toByte, setA, setFlags, flags]

end State

/-! ## Push, then pop -/

namespace PushesAndJumps

variable {ret target : Word} {s t : State}

/-- A push to RAM reaches no platform. -/
theorem eq_of_ram (h : PushesAndJumps ret target s t) (h₁ : s.kindAt (s.sp - 1) = .ram) (h₂ : s.kindAt (s.sp - 2) = .ram) :
    t = { s with mem := t.mem, sp := s.sp - 2, pc := target } := by
  obtain ⟨ht, -⟩ := h
  have h₂' : (s.poke (s.sp - 1) (hiByte ret)).kindAt (s.sp - 2) = .ram := h₂
  rw [s.memWrite_ram _ _ h₁, State.memWrite_ram _ _ _ h₂'] at ht
  rw [ht]
  rfl

/-- What was pushed to RAM is popped, and SP is as before. -/
theorem pop16_eq (h : PushesAndJumps ret target s t) (hm : s.mem.wf = true) (h₁ : s.kindAt (s.sp - 1) = .ram)
    (h₂ : s.kindAt (s.sp - 2) = .ram) : t.pop16 = (ret, t.setSP s.sp) := by
  obtain ⟨-, hframe, -, hhi, hlo⟩ := h
  have hsp : t.sp = s.sp - 2 := by rw [hframe]
  have hkind (x : Word) : t.kindAt x = s.kindAt x := by rw [hframe]; rfl
  have hone : s.sp - 2 + 1 = s.sp - 1 := by bv_omega
  have htwo : s.sp - 2 + 2 = s.sp := by bv_omega
  rw [t.pop16_stored (.inl (by rw [hkind, hsp, h₂])) (.inl (by rw [hkind, hsp, hone, h₁])), hsp, hone, htwo,
    hhi hm h₁, hlo hm h₂, State.joinBytes_hi_lo]

end PushesAndJumps

end Sys2Proof.Machine
end

section
/-! Taking an interrupt (60_exceptions.md sections 3 and 4). -/

namespace Sys2Proof.Machine

namespace State

variable {s u : State}

/-- Selecting a request touches memory and the platform only. -/
theorem intSelect_sameCpu {r : Word × State} (h : s.intSelect = some r) : SameCpu s r.2 := by
  obtain ⟨vs, e⟩ | ⟨v, e⟩ | ⟨view, ws, -, e⟩ := s.intSelect_state r h <;> rw [SameCpu, e] <;> rfl

theorem stepMode_of_interrupt {vector : Word} {w : State} (hmode : u.mode ≠ .stopped) (hime : u.ime = true)
    (hselect : u.intSelect = some (vector, w)) : u.stepMode = .next (w.takeInterrupt vector) := by
  have htaken : u.intTaken = some (vector, w) := intTaken_eq_some_iff.mpr ⟨hime, hselect⟩
  unfold stepMode
  split
  · simp [stepRunning, htaken]
  · simp [stepHalted, intPending, hselect, htaken]
  · next h => exact absurd h hmode

end State

/-- Settles O19: the step is `takeInterrupt` of what the source selects, which changes no register, and that pushes
`pc` and jumps. -/
theorem interruptEntry : Obligations.InterruptEntry := by
  unfold Obligations.InterruptEntry
  intro s u w vector hu hmode hime hselect
  have hstep : step s = .next (w.takeInterrupt vector) := by
    rw [step, hu, State.stepMode_of_interrupt hmode hime hselect]
  obtain ⟨m, p, rfl⟩ : ∃ m p, w = { u with mem := m, platform := p } := ⟨_, _, State.intSelect_sameCpu hselect⟩
  have hpush := State.takeInterrupt_pushes { u with mem := m, platform := p } vector
  obtain ⟨-, hframe, -⟩ := id hpush
  refine ⟨_, hstep, hpush, ?_⟩
  rw [hframe]
  exact ⟨rfl, rfl, rfl, rfl, rfl, rfl, rfl, rfl, rfl, rfl⟩

end Sys2Proof.Machine
end

section
/-! The 16-bit loads, PUSH and POP (41_loads16.md), and ADD SP,n, which computes as LDHL SP,n does (43_alu16.md R131). -/

namespace Sys2Proof

/-- `00 pp0 001` and the word, low byte first (R100). -/
theorem encode_ofLdPair (p : Pair) (nn : Word) :
    encode (.ofLdPair p nn) = [BitVec.ofNat 8 (0x01 + 16 * p.code), loByte nn, hiByte nn] := by
  cases p <;> rfl

theorem lowNibble_eq_mod (v : Byte) : lowNibble v = v.toNat % 16 := by simp [lowNibble, field]

/-- A byte of two's complement as a number modulo 65536 (R6, R58). -/
theorem sext16_toNat (v : Byte) : (sext16 v).toNat = if v.toNat < 128 then v.toNat else v.toNat + 0xFF00 := by
  have hlt := v.isLt
  rw [sext16, BitVec.toNat_signExtend, BitVec.msb_eq_decide, BitVec.toNat_setWidth, Nat.mod_eq_of_lt (by omega)]
  by_cases h : v.toNat < 128
  · simp [h]
  · simp [h, not_lt.mp h]

end Sys2Proof

namespace Sys2Proof.Machine

/-! ## The sum of SP and a signed byte -/

theorem addSpResult_toNat (sp : Word) (e8 : Byte) :
    (addSpResult sp e8).1.toNat = (sp.toNat + if e8.toNat < 128 then e8.toNat else e8.toNat + 0xFF00) % 65536 := by
  rw [← sext16_toNat]
  exact BitVec.toNat_add _ _

/-- The flags are the carries of the low byte of SP plus the unsigned byte (D14, entry 15). -/
theorem addSpResult_flags (sp : Word) (e8 : Byte) : (addSpResult sp e8).2 =
    { z := false, n := false
      h := decide (sp.toNat % 16 + e8.toNat % 16 > 0x0F), c := decide (sp.toNat % 256 + e8.toNat > 0xFF) } := by
  have hmod : sp.toNat % 256 % 16 = sp.toNat % 16 := Nat.mod_mod_of_dvd _ (by decide)
  simp [addSpResult, lowNibble_eq_mod, hmod]

namespace State

variable (s : State)

/-! ## Loads of a pair -/

@[simp] theorem advance_getPair (len : Word) (p : Pair) : (s.advance len).getPair p = s.getPair p := by cases p <;> rfl

/-- Writing a pair as an instruction's last effect writes that pair only. -/
theorem setPair_advance_onlyPair (p : Pair) (v len : Word) : OnlyPair p len s ((s.setPair p v).advance len) :=
  ⟨by cases p <;> rfl, fun q hq => (advance_getPair _ len q).trans (s.setPair_other p q v hq)⟩

@[simp] theorem loadPair_getPair (p : Pair) (nn : Word) : (s.loadPair p nn).getPair p = nn := by simp [loadPair]

/-- Writing HL and the flags as an instruction's last effects writes those only. -/
theorem setHL_setFlags_advance_onlyRegsFlags (v : Word) (f : Flags) (len : Word) :
    OnlyRegsFlags [.h, .l] len s (((s.setHL v).setFlags f).advance len) := by
  refine ⟨rfl, fun o ho hne => ?_⟩
  cases o with
  | h | l => exact absurd (by decide) hne
  | mhl => exact absurd rfl ho
  | _ => rfl

/-! ## POP -/

/-- POP: beyond the two reads it writes the pair, SP and pc. -/
theorem pop_eq_stackTop (p : StackPair) : s.pop p =
    ((s.stackTop.2.2.setSP (s.sp + 2)).setStackPair p (joinBytes s.stackTop.2.1 s.stackTop.1)).jump (s.pc + 1) := by
  have hpc : s.pc = ((s.stackTop.2.2.setSP (s.sp + 2)).setStackPair p (joinBytes s.stackTop.2.1 s.stackTop.1)).pc := by
    simp
  rw [pop, pop16_eq_stackTop, hpc]
  rfl

end State

/-! ## The obligations -/

/-- Settles O36: both are `addSpResult`, written to HL or to SP. -/
theorem spPlusSignedByte : Obligations.SpPlusSignedByte := by
  unfold Obligations.SpPlusSignedByte
  intro s e8
  have hsum := addSpResult_toNat s.sp e8
  have hflags := addSpResult_flags s.sp e8
  refine ⟨⟨s.loadHlSp e8, rfl, ?_, rfl, rfl, congrArg Flags.h hflags, congrArg Flags.c hflags,
      s.setHL_setFlags_advance_onlyRegsFlags _ _ 2, .of_mem_eq rfl⟩,
    ⟨s.addSp e8, rfl, hsum, ?_, .of_mem_eq rfl⟩⟩
  · have hhl : (s.loadHlSp e8).hl = (addSpResult s.sp e8).1 := s.setHL_hl _
    rw [hhl, hsum]
  · rw [State.addSp, hflags]
    rfl

/-- Settles O37: the two stores of `storeSP`, at two addresses that differ. -/
theorem storeSpLittleEndian : Obligations.StoreSpLittleEndian := by
  unfold Obligations.StoreSpLittleEndian
  intro s nn
  have hne : nn ≠ nn + 1 := by bv_omega
  have hframe := s.memWrite_memWrite_frame nn (nn + 1) (loByte s.sp) (hiByte s.sp)
  have hpc : s.storeSP nn = { (s.memWrite nn (loByte s.sp)).memWrite (nn + 1) (hiByte s.sp) with pc := s.pc + 3 } := by
    rw [← s.storeSP_pc nn]
    rfl
  refine ⟨s.storeSP nn, rfl, hpc, ?_, fun y => s.memWrite_memWrite_peek_other _ _ y _ _,
    s.memWrite_memWrite_peek_fst _ _ hne, s.memWrite_memWrite_peek_snd _ _⟩
  exact hpc.trans (congrArg (State.jump · (s.pc + 3)) hframe)

/-- Settles O38: PUSH is `push16` of the pair. -/
theorem pushStoresThePair : Obligations.PushStoresThePair := by
  unfold Obligations.PushStoresThePair
  intro s p
  exact ⟨_, exec_ofPush p s, s.push_pushes p, by cases p <;> rfl⟩

/-- Settles O39: POP writes the two bytes at the top of the stack to the two halves of the pair. -/
theorem popLoadsThePair : Obligations.PopLoadsThePair := by
  unfold Obligations.PopLoadsThePair
  intro s p
  refine ⟨_, exec_ofPop p s, ?_, .of_mem_eq (s.pop_mem p)⟩
  rw [s.pop_eq_stackTop p]
  cases p with
  | bc => simp [State.setStackPair, State.setBC, State.setSP, State.jump]
  | de => simp [State.setStackPair, State.setDE, State.setSP, State.jump]
  | hl => simp [State.setStackPair, State.setHL, State.setSP, State.jump]
  | af => simp [State.setStackPair, State.setAF, State.setA, State.setFlags, Flags.ofByte, State.setSP, State.jump]

/-- Settles O40: POP takes back the word pushed to RAM, and that is the pair's own value. -/
theorem pushThenPopRestores : Obligations.PushThenPopRestores := by
  unfold Obligations.PushThenPopRestores
  intro s p hm h₁ h₂
  refine ⟨_, _, exec_ofPush p s, exec_ofPop p _, ?_⟩
  have hpush := s.push_pushes p
  have hpop := hpush.pop16_eq hm h₁ h₂
  have hframe := hpush.eq_of_ram h₁ h₂
  generalize s.push p = t at hpop hframe ⊢
  have hsp : t.setSP s.sp = { s with mem := t.mem, pc := s.pc + 1 } := by
    rw [hframe]
    rfl
  have hpair : s.getStackPair p = State.getStackPair { s with mem := t.mem, pc := s.pc + 1 } p := by cases p <;> rfl
  have hpc : s.pc + 1 + 1 = s.pc + 2 := by bv_omega
  rw [State.pop, hpop, hsp, hpair, State.setStackPair_getStackPair, ← hpc]
  rfl

/-- Settles O35: `LD rr,nn` is `loadPair`, the write of a pair and no access. -/
theorem loadPairs : Obligations.LoadPairs := by
  unfold Obligations.LoadPairs
  intro s
  exact ⟨fun p nn => ⟨encode_ofLdPair p nn, _, exec_ofLdPair p nn s, s.loadPair_getPair p nn,
    s.setPair_advance_onlyPair p nn 3, .of_mem_eq (s.setPair_mem p nn)⟩, rfl⟩

end Sys2Proof.Machine
end

section
/-! The 8-bit ALU (42_alu8.md): the encodings of its forms, the values and flags it computes as numbers, and what it
writes beyond the read of its operand. -/

namespace Sys2Proof

/-! ## Encodings and printed figures -/

/-- `10 ooo zzz` (R120). -/
theorem encode_ofAlu (op : AluOp) (o : Opnd8) :
    encode (.ofAlu op o) = [BitVec.ofNat 8 (0x80 + 8 * op.code + o.code)] := by
  cases op <;> cases o <;> rfl

/-- `11 ooo 110` and the byte (R120). -/
theorem encode_ofAluImm (op : AluOp) (n : Byte) :
    encode (.ofAluImm op n) = [BitVec.ofNat 8 (0xC6 + 8 * op.code), n] := by
  cases op <;> rfl

theorem cycles_ofAlu (op : AluOp) (o : Opnd8) : (Instr.ofAlu op o).cycles = if o = .mhl then 8 else 4 := by
  cases op <;> cases o <;> rfl

theorem cycles_ofAluImm (op : AluOp) (n : Byte) : (Instr.ofAluImm op n).cycles = 8 := by
  cases op <;> rfl

/-- `00 rrr 100` (R118). -/
theorem encode_ofInc (o : Opnd8) : encode (.ofInc o) = [BitVec.ofNat 8 (0x04 + 8 * o.code)] := by
  cases o <;> rfl

/-- `00 rrr 101` (R119). -/
theorem encode_ofDec (o : Opnd8) : encode (.ofDec o) = [BitVec.ofNat 8 (0x05 + 8 * o.code)] := by
  cases o <;> rfl

theorem cycles_ofInc (o : Opnd8) : (Instr.ofInc o).cycles = if o = .mhl then 12 else 4 := by
  cases o <;> rfl

theorem cycles_ofDec (o : Opnd8) : (Instr.ofDec o).cycles = if o = .mhl then 12 else 4 := by
  cases o <;> rfl

end Sys2Proof

namespace Sys2Proof.Machine

/-! ## The results as numbers -/

theorem addWith_toNat (a v : Byte) (c : Bool) :
    (addWith a v c).1.toNat = (a.toNat + v.toNat + c.toNat) % 256 :=
  BitVec.toNat_ofNat _ 8

/-- Z is read off the sum; H and C are the carries of the three-term sum (R110, R111). -/
theorem addWith_flags (a v : Byte) (c : Bool) : (addWith a v c).2 =
    { z := decide ((addWith a v c).1 = 0), n := false
      h := decide (a.toNat % 16 + v.toNat % 16 + c.toNat > 0x0F), c := decide (a.toNat + v.toNat + c.toNat > 0xFF) } := by
  simp [addWith, lowNibble_eq_mod]

/-- The difference modulo 256; the 512 keeps the subtraction of natural numbers from stopping at 0. -/
theorem subWith_toNat (a v : Byte) (c : Bool) :
    (subWith a v c).1.toNat = (a.toNat + 512 - v.toNat - c.toNat) % 256 := by
  have hc := c.toNat_lt
  have hv := v.isLt
  simp only [subWith, BitVec.toNat_sub, BitVec.toNat_ofNat]
  omega

/-- H and C are the borrows of the three-term difference (R112, R113; D12, entry 14). -/
theorem subWith_flags (a v : Byte) (c : Bool) : (subWith a v c).2 =
    { z := decide ((a.toNat + 512 - v.toNat - c.toNat) % 256 = 0), n := true
      h := decide (a.toNat % 16 < v.toNat % 16 + c.toNat), c := decide (a.toNat < v.toNat + c.toNat) } := by
  have hz : (subWith a v c).1 = 0 ↔ (a.toNat + 512 - v.toNat - c.toNat) % 256 = 0 := by
    rw [← subWith_toNat, BitVec.toNat_eq]
    rfl
  simp only [← decide_eq_decide.mpr hz, ← lowNibble_eq_mod]
  rfl

/-- The bits of A after AND, OR and XOR (R114 to R116). -/
theorem aluResult_logic_getLsbD {op : AluOp} (h : op = .and ∨ op = .or ∨ op = .xor) (a v : Byte) (c : Bool) (k : Nat) :
    (aluResult op a v c).1.getLsbD k =
      if op = .and then (a.getLsbD k && v.getLsbD k) else if op = .or then (a.getLsbD k || v.getLsbD k)
      else (a.getLsbD k != v.getLsbD k) := by
  rcases h with rfl | rfl | rfl
  · exact BitVec.getLsbD_and
  · exact BitVec.getLsbD_or
  · exact BitVec.getLsbD_xor

theorem aluResult_logic_flags {op : AluOp} (h : op = .and ∨ op = .or ∨ op = .xor) (a v : Byte) (c : Bool) :
    (aluResult op a v c).2 = logicFlags (aluResult op a v c).1 (decide (op = .and)) := by
  rcases h with rfl | rfl | rfl <;> rfl

theorem incResult_eq (v : Byte) (c : Bool) :
    incResult v c = (BitVec.ofNat 8 ((v.toNat + 1) % 256),
      { z := decide (BitVec.ofNat 8 ((v.toNat + 1) % 256) = 0), n := false, h := decide (v.toNat % 16 = 0x0F), c := c }) := by
  have hw : v + 1 = BitVec.ofNat 8 ((v.toNat + 1) % 256) := by bv_omega
  rw [incResult, lowNibble_eq_mod, hw]

theorem decResult_eq (v : Byte) (c : Bool) :
    decResult v c = (BitVec.ofNat 8 ((v.toNat + 255) % 256),
      { z := decide (BitVec.ofNat 8 ((v.toNat + 255) % 256) = 0), n := true, h := decide (v.toNat % 16 = 0), c := c }) := by
  have hw : v - 1 = BitVec.ofNat 8 ((v.toNat + 255) % 256) := by bv_omega
  rw [decResult, lowNibble_eq_mod, hw]

/-! ## Writes of A and the flags -/

/-- Writing A and the flags as an instruction's last effects writes those only. -/
theorem State.setA_setFlags_advance_onlyRegsFlags (s : State) (v : Byte) (f : Flags) (len : Word) :
    OnlyRegsFlags [.a] len s (((s.setA v).setFlags f).advance len) := by
  refine ⟨rfl, fun o ho hne => ?_⟩
  cases o with
  | a => exact absurd (by decide) hne
  | mhl => exact absurd rfl ho
  | _ => rfl

namespace AluOperand

variable (x : AluOperand) (op : AluOp) (s : State)

theorem encode_instr : encode (x.instr op) = x.bytes op := by
  cases x with
  | opnd o => exact encode_ofAlu op o
  | imm n => exact encode_ofAluImm op n

theorem cycles_instr : (x.instr op).cycles = x.cycles := by
  cases x with
  | opnd o => exact cycles_ofAlu op o
  | imm n => exact cycles_ofAluImm op n

@[simp] theorem after_a : (x.after s).a = s.a := by
  cases x with
  | opnd o => exact s.rd8_a o
  | imm n => rfl

@[simp] theorem after_fC : (x.after s).fC = s.fC := by
  cases x with
  | opnd o => exact s.rd8_fC o
  | imm n => rfl

@[simp] theorem after_mem : (x.after s).mem = s.mem := by
  cases x with
  | opnd o => exact s.rd8_mem o
  | imm n => rfl

/-- Both forms are `aluWith` after the read of the operand. -/
theorem exec_instr : exec (x.instr op) s = .next (((x.after s).aluWith op (x.value s)).advance x.len) := by
  cases x with
  | opnd o => exact exec_ofAlu op o s
  | imm n => exact exec_ofAluImm op n s

/-- Everything an ALU instruction does: it reads its operand, then writes A and the flags as `aluResult` computes them
from the A and C of before. -/
theorem exec_instr_computes :
    ∃ t, exec (x.instr op) s = .next t ∧ t.a = (aluResult op s.a (x.value s) s.fC).1 ∧
      t.flags = (aluResult op s.a (x.value s) s.fC).2 ∧ OnlyRegsFlags [.a] x.len (x.after s) t ∧ KeepsMemory s t := by
  rw [← after_a x s, ← after_fC x s]
  exact ⟨_, exec_instr x op s, rfl, rfl, (x.after s).setA_setFlags_advance_onlyRegsFlags _ _ x.len,
    .of_mem_eq (after_mem x s)⟩

end AluOperand

/-! ## Reads that are written back -/

namespace State

variable (s : State)

/-- The flags are no register. -/
theorem reg_setFlags (o : Opnd8) (f : Flags) (h : o ≠ .mhl) : (s.setFlags f).reg o = s.reg o := by
  cases o with
  | mhl => exact absurd rfl h
  | _ => rfl

/-- The read of an operand changes no register. -/
theorem reg_rd8 (o o' : Opnd8) (h : o' ≠ .mhl) : (s.rd8 o).2.reg o' = s.reg o' := by
  cases o' with
  | b => exact s.rd8_b o
  | c => exact s.rd8_c o
  | d => exact s.rd8_d o
  | e => exact s.rd8_e o
  | h => exact s.rd8_h o
  | l => exact s.rd8_l o
  | mhl => exact absurd rfl h
  | a => exact s.rd8_a o

/-- The fields a read and a write back can change: the 8-bit registers, memory, the bus log and the platform cells. -/
theorem wr8_rd8_frame (o : Opnd8) (w : Byte) :
    (s.rd8 o).2.wr8 o w = { s with
      a := ((s.rd8 o).2.wr8 o w).a, b := ((s.rd8 o).2.wr8 o w).b, c := ((s.rd8 o).2.wr8 o w).c
      d := ((s.rd8 o).2.wr8 o w).d, e := ((s.rd8 o).2.wr8 o w).e
      h := ((s.rd8 o).2.wr8 o w).h, l := ((s.rd8 o).2.wr8 o w).l
      mem := ((s.rd8 o).2.wr8 o w).mem
      platform := { s.platform with
        bus := ((s.rd8 o).2.wr8 o w).platform.bus, cells := ((s.rd8 o).2.wr8 o w).platform.cells } } := by
  by_cases ho : o = .mhl
  · subst ho
    rw [wr8_rd8_mhl]
    have hread := s.memRead_frame s.hl
    have hwrite := (s.memRead s.hl).2.memWrite_frame s.hl w
    generalize (s.memRead s.hl).2.memWrite s.hl w = u at hwrite ⊢
    generalize (s.memRead s.hl).2 = t at hread hwrite
    rw [hwrite, hread]
  · obtain ⟨hmem, hplatform, -⟩ := s.wr8_reg o w ho
    rw [s.rd8_reg o ho, hmem, hplatform]
    exact s.wr8_frame_of_reg o w ho

/-- Reading an operand, writing it back and setting the flags, as an instruction's last effects, does no more than
that: in the `(HL)` form the one byte at HL, else the one register. -/
theorem wr8_rd8_setFlags_advance_rewrites (o : Opnd8) (w : Byte) (f : Flags) (len : Word) :
    RewritesOperand o w f len s ((((s.rd8 o).2.wr8 o w).setFlags f).advance len) := by
  have hreg (o' : Opnd8) (ho' : o' ≠ .mhl) :
      ((((s.rd8 o).2.wr8 o w).setFlags f).advance len).reg o' = ((s.rd8 o).2.wr8 o w).reg o' :=
    (reg_advance _ o' len ho').trans (reg_setFlags _ o' f ho')
  refine ⟨?_, congrArg (fun t => (t.setFlags f).advance len) (s.wr8_rd8_frame o w), fun o' hne ho' => ?_,
    fun ho => ⟨?_, .of_mem_eq ?_⟩, ?_⟩
  · have hpc : ((s.rd8 o).2.wr8 o w).pc = s.pc := by simp
    rw [← hpc]
    rfl
  · exact (hreg o' ho').trans ((wr8_other _ o o' w hne ho').trans (s.reg_rd8 o o' ho'))
  · obtain ⟨-, -, hw⟩ := (s.rd8 o).2.wr8_reg o w ho
    exact (hreg o ho).trans hw
  · obtain ⟨hmem, -⟩ := (s.rd8 o).2.wr8_reg o w ho
    exact hmem.trans (s.rd8_mem o)
  · rintro rfl
    have hpeek (y : Word) : ((((s.rd8 .mhl).2.wr8 .mhl w).setFlags f).advance len).peek y =
        ((s.memRead s.hl).2.memWrite s.hl w).peek y := congrArg (·.peek y) (s.wr8_rd8_mhl w)
    refine ⟨fun y hy => ?_, fun hk hm => ?_⟩
    · exact (hpeek y).trans ((memWrite_peek_other _ s.hl y w hy).trans (s.memRead_peek s.hl y))
    · exact (hpeek s.hl).trans (memWrite_peek_same _ s.hl w ((s.memRead_kindAt _ _).trans hk)
        ((congrArg Memory.wf (s.memRead_mem s.hl)).trans hm))

theorem inc8_rewrites (o : Opnd8) :
    RewritesOperand o (incResult (s.rd8 o).1 s.fC).1 (incResult (s.rd8 o).1 s.fC).2 1 s (s.inc8 o) :=
  s.wr8_rd8_setFlags_advance_rewrites o _ _ 1

theorem dec8_rewrites (o : Opnd8) :
    RewritesOperand o (decResult (s.rd8 o).1 s.fC).1 (decResult (s.rd8 o).1 s.fC).2 1 s (s.dec8 o) :=
  s.wr8_rd8_setFlags_advance_rewrites o _ _ 1

end State

/-! ## The obligations -/

/-- Settles O41: both are `addWith`, ADD without an incoming carry. -/
theorem addAndAdc : Obligations.AddAndAdc := by
  unfold Obligations.AddAndAdc
  intro s x op hop v cin
  obtain ⟨c, hc, hresult⟩ : ∃ c : Bool, c.toNat = cin ∧ aluResult op s.a v s.fC = addWith s.a v c := by
    rcases hop with rfl | rfl
    · exact ⟨false, rfl, rfl⟩
    · exact ⟨s.fC, rfl, rfl⟩
  obtain ⟨t, hexec, ha, hflags, honly, hmem⟩ := x.exec_instr_computes op s
  rw [hresult] at ha hflags
  rw [addWith_flags, ← ha] at hflags
  rw [← hc]
  exact ⟨x.encode_instr op, x.cycles_instr op, t, hexec, ha ▸ addWith_toNat s.a v c, congrArg Flags.z hflags,
    congrArg Flags.n hflags, congrArg Flags.h hflags, congrArg Flags.c hflags, honly, hmem⟩

/-- Settles O42: all three are `subWith`, SUB and CP without an incoming carry, and CP writes A's own value. -/
theorem subSbcAndCp : Obligations.SubSbcAndCp := by
  unfold Obligations.SubSbcAndCp
  intro s x op hop v cin r
  obtain ⟨c, hc, hresult⟩ : ∃ c : Bool, c.toNat = cin ∧
      aluResult op s.a v s.fC = (if op = .cp then s.a else (subWith s.a v c).1, (subWith s.a v c).2) := by
    rcases hop with rfl | rfl | rfl
    · exact ⟨false, rfl, rfl⟩
    · exact ⟨s.fC, rfl, rfl⟩
    · exact ⟨false, rfl, rfl⟩
  have hr : (subWith s.a v c).1.toNat = r := by rw [subWith_toNat, hc]
  obtain ⟨t, hexec, ha, hflags, honly, hmem⟩ := x.exec_instr_computes op s
  rw [hresult] at ha hflags
  rw [subWith_flags, hc] at hflags
  refine ⟨x.encode_instr op, x.cycles_instr op, t, hexec, ?_, congrArg Flags.z hflags,
    congrArg Flags.n hflags, congrArg Flags.h hflags, congrArg Flags.c hflags, honly, hmem⟩
  rw [ha, apply_ite BitVec.toNat, hr]

/-- Settles O43: the operation on A and the operand bit by bit, with its flags from `logicFlags`. -/
theorem logicOperations : Obligations.LogicOperations := by
  unfold Obligations.LogicOperations
  intro s x op hop v
  obtain ⟨t, hexec, ha, hflags, honly, hmem⟩ := x.exec_instr_computes op s
  rw [aluResult_logic_flags hop, ← ha] at hflags
  exact ⟨x.encode_instr op, x.cycles_instr op, t, hexec, fun k _ => ha ▸ aluResult_logic_getLsbD hop s.a v s.fC k,
    congrArg Flags.z hflags, congrArg Flags.n hflags, congrArg Flags.h hflags, congrArg Flags.c hflags, honly, hmem⟩

/-- Settles O44: INC writes `incResult` back to its operand. -/
theorem incByte : Obligations.IncByte := by
  unfold Obligations.IncByte
  intro s o v w
  have hrewrites := s.inc8_rewrites o
  rw [incResult_eq] at hrewrites
  exact ⟨encode_ofInc o, cycles_ofInc o, _, exec_ofInc o s, hrewrites⟩

/-- Settles O45: DEC writes `decResult` back to its operand. -/
theorem decByte : Obligations.DecByte := by
  unfold Obligations.DecByte
  intro s o v w
  have hrewrites := s.dec8_rewrites o
  rw [decResult_eq] at hrewrites
  exact ⟨encode_ofDec o, cycles_ofDec o, _, exec_ofDec o s, hrewrites⟩

end Sys2Proof.Machine
end

section
/-! The 16-bit arithmetic on pairs (43_alu16.md): the encodings of its forms, and the sums it computes as numbers. -/

namespace Sys2Proof

/-! ## Encodings and printed figures -/

/-- `00 pp1 001` (R130). -/
theorem encode_ofAddHl (p : Pair) : encode (.ofAddHl p) = [BitVec.ofNat 8 (0x09 + 16 * p.code)] := by
  cases p <;> rfl

/-- `00 pp0 011` (R132). -/
theorem encode_ofIncPair (p : Pair) : encode (.ofIncPair p) = [BitVec.ofNat 8 (0x03 + 16 * p.code)] := by
  cases p <;> rfl

/-- `00 pp1 011` (R133). -/
theorem encode_ofDecPair (p : Pair) : encode (.ofDecPair p) = [BitVec.ofNat 8 (0x0B + 16 * p.code)] := by
  cases p <;> rfl

theorem cycles_ofAddHl (p : Pair) : (Instr.ofAddHl p).cycles = 8 := by
  cases p <;> rfl

theorem cycles_ofIncPair (p : Pair) : (Instr.ofIncPair p).cycles = 8 := by
  cases p <;> rfl

theorem cycles_ofDecPair (p : Pair) : (Instr.ofDecPair p).cycles = 8 := by
  cases p <;> rfl

end Sys2Proof

namespace Sys2Proof.Machine

/-! ## ADD HL,rr -/

theorem addHlResult_toNat (x y : Word) (z : Bool) : (addHlResult x y z).1.toNat = (x.toNat + y.toNat) % 65536 :=
  BitVec.toNat_add x y

/-- Z is the one given; H and C are the carries from bits 11 and 15 (R130). -/
theorem addHlResult_flags (x y : Word) (z : Bool) : (addHlResult x y z).2 =
    { z := z, n := false
      h := decide (x.toNat % 4096 + y.toNat % 4096 > 0x0FFF), c := decide (x.toNat + y.toNat > 0xFFFF) } := rfl

namespace State

variable (s : State)

@[simp] theorem addHl_hl (p : Pair) : (s.addHl p).hl = (addHlResult s.hl (s.getPair p) s.fZ).1 := s.setHL_hl _

theorem addHl_flags (p : Pair) : (s.addHl p).flags = (addHlResult s.hl (s.getPair p) s.fZ).2 := rfl

theorem addHl_onlyRegsFlags (p : Pair) : OnlyRegsFlags [.h, .l] 1 s (s.addHl p) :=
  s.setHL_setFlags_advance_onlyRegsFlags _ _ 1

/-! ## INC and DEC of a pair -/

@[simp] theorem incPair_getPair (p : Pair) : (s.incPair p).getPair p = s.getPair p + 1 := by simp [incPair]

@[simp] theorem decPair_getPair (p : Pair) : (s.decPair p).getPair p = s.getPair p - 1 := by simp [decPair]

end State

/-! ## The obligations -/

/-- Settles O46: ADD HL,rr writes `addHlResult` to HL and the flags. -/
theorem addHlPair : Obligations.AddHlPair := by
  unfold Obligations.AddHlPair
  intro s p v
  have hhl : (s.addHl p).hl.toNat = (s.hl.toNat + v.toNat) % 65536 := by
    rw [s.addHl_hl p, addHlResult_toNat]
  have hflags := (s.addHl_flags p).trans (addHlResult_flags s.hl v s.fZ)
  exact ⟨encode_ofAddHl p, cycles_ofAddHl p, s.addHl p, exec_ofAddHl p s, hhl, congrArg Flags.z hflags,
    congrArg Flags.n hflags, congrArg Flags.h hflags, congrArg Flags.c hflags, s.addHl_onlyRegsFlags p, .of_mem_eq rfl⟩

/-- Settles O47: both write the pair and nothing else; one less is 65535 more modulo 65536. -/
theorem incAndDecPair : Obligations.IncAndDecPair := by
  unfold Obligations.IncAndDecPair
  intro s p
  have hinc : ((s.incPair p).getPair p).toNat = ((s.getPair p).toNat + 1) % 65536 := by
    rw [s.incPair_getPair p]
    exact BitVec.toNat_add _ 1
  have hdec : ((s.decPair p).getPair p).toNat = ((s.getPair p).toNat + 65535) % 65536 := by
    rw [s.decPair_getPair p]
    bv_omega
  exact ⟨⟨encode_ofIncPair p, cycles_ofIncPair p, _, exec_ofIncPair p s, hinc, s.setPair_advance_onlyPair p _ 1,
      .of_mem_eq (s.setPair_mem p _)⟩,
    ⟨encode_ofDecPair p, cycles_ofDecPair p, _, exec_ofDecPair p s, hdec, s.setPair_advance_onlyPair p _ 1,
      .of_mem_eq (s.setPair_mem p _)⟩⟩

end Sys2Proof.Machine
end

section
/-! A running step with no interrupt to take is the fetch and then the instruction (60_exceptions.md R225), and the delayed
change of IME around the instruction (44_misc.md R148 to R150). -/

namespace Sys2Proof.Machine

namespace State

variable {s s₀ s₁ s₂ u : State} {i : Instr}

/-! ## Fetching -/

theorem pc_of_memRead_eq {x : Word} {v : Byte} {t : State} (h : s.memRead x = (v, t)) : t.pc = s.pc := by
  simpa [h] using s.memRead_pc x

theorem memRead_of_storedAt {x : Word} (h : s.storedAt x = true) : s.memRead x = (s.peek x, s) :=
  s.memRead_stored x (by simpa [storedAt] using h)

/-- Over stored memory the fetch of a byte changes nothing, and gives the byte there if the instruction has it. -/
theorem fetchByte_of_storedAt (len : Nat) {k : Nat} (h : s.storedAt (s.pc + BitVec.ofNat 16 k) = true) :
    ∃ b, s.fetchByte len k = (b, s) ∧ (k < len → b = s.peek (s.pc + BitVec.ofNat 16 k)) := by
  by_cases hk : k < len
  · exact ⟨_, (if_pos hk).trans (memRead_of_storedAt h), fun _ => rfl⟩
  · exact ⟨0, s.fetchByte_beyond len k (Nat.not_lt.mp hk), fun hlt => absurd hlt hk⟩

/-- A byte after the opcode is read at its own address, since the reads before it leave `pc`. -/
theorem fetchByte_within {len k : Nat} (hpc : s₀.pc = s.pc) (h : k < len) :
    s₀.fetchByte len k = s₀.memRead (s.pc + BitVec.ofNat 16 k) := by
  rw [fetchByte, if_pos h, hpc]

/-- A fetch is its three bytes in ascending order, decoded. -/
theorem fetch_eq_instr {b0 b1 b2 : Byte} (h0 : s.memRead s.pc = (b0, s₀)) (h1 : s₀.fetchByte (lengthOf b0) 1 = (b1, s₁))
    (h2 : s₁.fetchByte (lengthOf b0) 2 = (b2, s₂)) (hi : decodeBytes b0 b1 b2 = some i) : s.fetch = .instr i s₂ := by
  simp only [fetch, h0, h1, h2, hi]

/-- The decoder looks at no byte that the fetch left unread. -/
theorem fetch_of_holdsAtPc (h : s.holdsAtPc i) : s.fetch = .instr i s := by
  obtain ⟨hs0, hs1, hs2, hi⟩ := h
  obtain ⟨b1, hf1, hb1⟩ := s.fetchByte_of_storedAt (lengthOf (s.peek s.pc)) (k := 1) hs1
  obtain ⟨b2, hf2, hb2⟩ := s.fetchByte_of_storedAt (lengthOf (s.peek s.pc)) (k := 2) hs2
  exact fetch_eq_instr (memRead_of_storedAt hs0) hf1 hf2 ((decodeBytes_congr hb1 hb2).trans hi)

section

variable {b0 b1 b2 : Byte} (h0 : s.memRead s.pc = (b0, s₀)) (h1 : s₀.memRead (s.pc + 1) = (b1, s₁))

include h0

theorem fetch_of_length_one (hlen : lengthOf b0 = 1) (hi : decodeBytes b0 0 0 = some i) : s.fetch = .instr i s₀ :=
  fetch_eq_instr h0 (s₀.fetchByte_beyond _ 1 (by omega)) (s₀.fetchByte_beyond _ 2 (by omega)) hi

include h1

theorem fetch_of_length_two (hlen : lengthOf b0 = 2) (hi : decodeBytes b0 b1 0 = some i) : s.fetch = .instr i s₁ := by
  have hpc₀ := pc_of_memRead_eq h0
  exact fetch_eq_instr h0 ((fetchByte_within hpc₀ (by omega)).trans h1) (s₁.fetchByte_beyond _ 2 (by omega)) hi

theorem fetch_of_length_three (h2 : s₁.memRead (s.pc + 2) = (b2, s₂)) (hlen : lengthOf b0 = 3)
    (hi : decodeBytes b0 b1 b2 = some i) : s.fetch = .instr i s₂ := by
  have hpc₀ := pc_of_memRead_eq h0
  have hpc₁ := (pc_of_memRead_eq h1).trans hpc₀
  exact fetch_eq_instr h0 ((fetchByte_within hpc₀ (by omega)).trans h1) ((fetchByte_within hpc₁ (by omega)).trans h2) hi

end

/-- A running step with no interrupt to take runs what was fetched. -/
theorem stepMode_of_fetch (hmode : u.mode = .running) (hnone : u.intTaken = none) (hfetch : u.fetch = .instr i s) :
    u.stepMode = exec i s.applyImePending := by
  simp only [stepMode, hmode, stepRunning, hnone, executeOne, hfetch]

/-! ## The delayed change of IME -/

theorem applyImePending_of_enable (h : s.imePending = .enable) :
    s.applyImePending = { s with ime := true, imePending := .none } := by
  simp only [applyImePending, h]

@[simp] theorem applyImePending_imePending (s : State) : s.applyImePending.imePending = .none := by
  rw [applyImePending_state]

end State

/-- An instruction of which R150 says nothing only completes what was pending. -/
theorem completion_of_ne {i : Instr} (hei : i ≠ .ei) (hdi : i ≠ .di) (hreti : i ≠ .reti) (delay : Config.DiDelay)
    (ime : Bool) : completion delay ime .none i = (ime, .none) := by
  simp only [completion]  -- the three hypotheses rule out the arms before the last

/-- Once the pending change is made, the completion step finds nothing pending (entry 8). -/
theorem completion_applyImePending (s : State) (delay : Config.DiDelay) (i : Instr) :
    completion delay s.applyImePending.ime .none i = completion delay s.ime s.imePending i := by
  unfold State.applyImePending
  cases h : s.imePending <;> rfl

/-- No instruction but EI, DI and RETI changes IME or what is scheduled, form by form. -/
theorem exec_keeps_ime {i : Instr} (hei : i ≠ .ei) (hdi : i ≠ .di) (hreti : i ≠ .reti) (s : State) :
    ∃ t, exec i s = .next t ∧ t.ime = s.ime ∧ t.imePending = s.imePending := by
  cases i.form with
  | ei => exact absurd rfl hei
  | di => exact absurd rfl hdi
  | reti => exact absurd rfl hreti
  | nop | stop | halt | ld_sp_hl | jp_hl => exact ⟨_, rfl, rfl, rfl⟩
  | jp_nn nn => exact ⟨_, rfl, rfl, rfl⟩
  | daa => exact ⟨_, rfl, s.decimalAdjust_ime, s.decimalAdjust_imePending⟩
  | cpl => exact ⟨_, rfl, s.complementA_ime, s.complementA_imePending⟩
  | scf => exact ⟨_, rfl, s.setCarry_ime, s.setCarry_imePending⟩
  | ccf => exact ⟨_, rfl, s.complementCarry_ime, s.complementCarry_imePending⟩
  | ld x y hxy => exact ⟨_, exec_ofLd x y hxy s, s.load8_ime x y, s.load8_imePending x y⟩
  | ldImm x n => exact ⟨_, exec_ofLdImm x n s, s.loadImm8_ime x n, s.loadImm8_imePending x n⟩
  | ld_mbc_a | ld_mde_a | ld_mc_a => exact ⟨_, rfl, s.storeA_ime _ _, s.storeA_imePending _ _⟩
  | ldh_mn_a n | ld_mnn_a nn => exact ⟨_, rfl, s.storeA_ime _ _, s.storeA_imePending _ _⟩
  | ld_a_mbc | ld_a_mde | ld_a_mc => exact ⟨_, rfl, s.loadA_ime _ _, s.loadA_imePending _ _⟩
  | ldh_a_mn n | ld_a_mnn nn => exact ⟨_, rfl, s.loadA_ime _ _, s.loadA_imePending _ _⟩
  | ldi_mhl_a | ldd_mhl_a => exact ⟨_, rfl, s.storeAStep_ime _, s.storeAStep_imePending _⟩
  | ldi_a_mhl | ldd_a_mhl => exact ⟨_, rfl, s.loadAStep_ime _, s.loadAStep_imePending _⟩
  | ldPair p nn => exact ⟨_, exec_ofLdPair p nn s, s.loadPair_ime p nn, s.loadPair_imePending p nn⟩
  | ld_mnn_sp nn => exact ⟨_, rfl, s.storeSP_ime nn, s.storeSP_imePending nn⟩
  | ldhl_sp_e8 e8 => exact ⟨_, rfl, s.loadHlSp_ime e8, s.loadHlSp_imePending e8⟩
  | push p => exact ⟨_, exec_ofPush p s, s.push_ime p, s.push_imePending p⟩
  | pop p => exact ⟨_, exec_ofPop p s, s.pop_ime p, s.pop_imePending p⟩
  | alu op o => exact ⟨_, exec_ofAlu op o s, s.alu_ime op o, s.alu_imePending op o⟩
  | aluImm op n => exact ⟨_, exec_ofAluImm op n s, s.aluImm_ime op n, s.aluImm_imePending op n⟩
  | inc o => exact ⟨_, exec_ofInc o s, s.inc8_ime o, s.inc8_imePending o⟩
  | dec o => exact ⟨_, exec_ofDec o s, s.dec8_ime o, s.dec8_imePending o⟩
  | addHl p => exact ⟨_, exec_ofAddHl p s, s.addHl_ime p, s.addHl_imePending p⟩
  | incPair p => exact ⟨_, exec_ofIncPair p s, s.incPair_ime p, s.incPair_imePending p⟩
  | decPair p => exact ⟨_, exec_ofDecPair p s, s.decPair_ime p, s.decPair_imePending p⟩
  | add_sp_e8 e8 => exact ⟨_, rfl, s.addSp_ime e8, s.addSp_imePending e8⟩
  | rotA op => exact ⟨_, exec_ofRotA op s, s.rotateA_ime op, s.rotateA_imePending op⟩
  | shift op o => exact ⟨_, exec_ofShift op o s, s.shift8_ime op o, s.shift8_imePending op o⟩
  | bit k o => exact ⟨_, exec_ofBit k o s, s.testBit_ime k o, s.testBit_imePending k o⟩
  | res k o => exact ⟨_, exec_ofRes k o s, s.resetBit_ime k o, s.resetBit_imePending k o⟩
  | set k o => exact ⟨_, exec_ofSet k o s, s.setBit8_ime k o, s.setBit8_imePending k o⟩
  | jp cc nn => exact ⟨_, exec_ofJp cc nn s, s.jumpIf_ime cc nn, s.jumpIf_imePending cc nn⟩
  | jr_e8 e8 => exact ⟨_, rfl, s.jumpRel_ime e8, s.jumpRel_imePending e8⟩
  | jr cc e8 => exact ⟨_, exec_ofJr cc e8 s, s.jumpRelIf_ime cc e8, s.jumpRelIf_imePending cc e8⟩
  | call_nn nn => exact ⟨_, rfl, s.call_ime nn 3, s.call_imePending nn 3⟩
  | call cc nn => exact ⟨_, exec_ofCall cc nn s, s.callIf_ime cc nn, s.callIf_imePending cc nn⟩
  | rst k => exact ⟨_, exec_ofRst k s, s.call_ime _ 1, s.call_imePending _ 1⟩
  | ret => exact ⟨_, rfl, s.ret_ime, s.ret_imePending⟩
  | retIf cc => exact ⟨_, exec_ofRet cc s, s.retIf_ime cc, s.retIf_imePending cc⟩

/-- The instruction's own half of the completion step (R148 to R150, R212): EI, DI and RETI make their change. -/
theorem exec_completion (i : Instr) {s : State} (h : s.imePending = .none) :
    ∃ t, exec i s = .next t ∧ (t.ime, t.imePending) = completion s.params.diDelay s.ime .none i := by
  by_cases hei : i = .ei
  · subst hei
    exact ⟨_, rfl, rfl⟩
  by_cases hdi : i = .di
  · subst hdi
    refine ⟨_, rfl, ?_⟩
    rw [s.disableInterrupts_spec]
    unfold completion
    cases s.params.diDelay <;> rfl
  by_cases hreti : i = .reti
  · subst hreti
    exact ⟨_, rfl, rfl⟩
  obtain ⟨t, hexec, hime, hpending⟩ := exec_keeps_ime hei hdi hreti s
  exact ⟨t, hexec, by rw [hime, hpending, h, completion_of_ne hei hdi hreti]⟩

/-! ## The obligations -/

/-- Settles O16: `exec_completion` on the state in which the pending change is made. -/
theorem imeFollowsTheCompletionStep : Obligations.ImeFollowsTheCompletionStep := by
  unfold Obligations.ImeFollowsTheCompletionStep
  intro i s t h
  obtain ⟨u, hexec, hu⟩ := exec_completion i s.applyImePending_imePending
  cases h.symm.trans hexec
  rw [hu, s.applyImePending_params, completion_applyImePending]

/-- Settles O10: what the fetch gives, over stored memory and for each length, is what the step runs. -/
theorem stepRunsTheDecodedInstruction : Obligations.StepRunsTheDecodedInstruction := by
  unfold Obligations.StepRunsTheDecodedInstruction
  rintro s u i rfl hmode hnone
  refine ⟨fun h => ?_, fun hlen hi => ?_, fun hlen hi => ?_, fun hlen hi => ?_⟩ <;>
    refine State.stepMode_of_fetch hmode hnone ?_
  · exact State.fetch_of_holdsAtPc h
  · exact State.fetch_of_length_one Prod.mk.eta.symm hlen hi
  · exact State.fetch_of_length_two Prod.mk.eta.symm Prod.mk.eta.symm hlen hi
  · exact State.fetch_of_length_three Prod.mk.eta.symm Prod.mk.eta.symm Prod.mk.eta.symm hlen hi

/-- Settles O21: EI leaves IME clear, so the next step takes no interrupt, and it makes the scheduled change before it
runs what it fetched. -/
theorem eiDelaysOneInstruction : Obligations.EiDelaysOneInstruction := by
  unfold Obligations.EiDelaysOneInstruction
  intro s i hime hmode
  refine ⟨(s.advance 1).schedule .enable, rfl, fun hat => ?_⟩
  generalize ht : (s.advance 1).schedule .enable = t at hat ⊢
  have hclear : t.deliver.ime = false := by rw [t.deliver_ime, ← ht]; exact hime
  have hrunning : t.deliver.mode = .running := by rw [t.deliver_mode, ← ht]; exact hmode
  have hscheduled : t.deliver.imePending = .enable := by rw [t.deliver_imePending, ← ht]; rfl
  have hnone : t.deliver.intTaken = none := t.deliver.intTaken_of_ime_clear hclear
  rw [← State.applyImePending_of_enable hscheduled]
  exact State.stepMode_of_fetch hrunning hnone (State.fetch_of_holdsAtPc hat)

/-- Settles O52: DI under either `DI_DELAY` is `disableInterrupts_spec`. -/
theorem haltStopEiAndDi : Obligations.HaltStopEiAndDi := by
  unfold Obligations.HaltStopEiAndDi
  intro s
  exact ⟨rfl, rfl, rfl, congrArg Host.Outcome.next s.disableInterrupts_spec⟩

/-- Settles O51: CPL's exclusive or with FF is the complement; the other effects are those of the meanings. -/
theorem cplCcfScfAndNop : Obligations.CplCcfScfAndNop := by
  unfold Obligations.CplCcfScfAndNop
  intro s
  have hnot : s.complementA = { s with a := ~~~s.a, fN := true, fH := true, pc := s.pc + 1 } :=
    congrArg (fun v => ((s.setA v).setFlags { s.flags with n := true, h := true }).advance 1) BitVec.xor_allOnes
  exact ⟨rfl, rfl, rfl, rfl, by decide, congrArg Host.Outcome.next hnot, rfl, rfl, rfl⟩

end Sys2Proof.Machine
end

section
/-! DAA (44_misc.md R141, decision D15, entry 16): its algorithm as sums, and what it makes of the binary sum and the binary
difference of two packed BCD bytes, digit by digit. -/

namespace Sys2Proof.Machine

/-! ## The algorithm -/

theorem daaAfterAdd_eq (a : Byte) (h c : Bool) : daaAfterAdd a h c =
    (a + (if c = true ∨ a.toNat > 0x99 then 0x60 else 0x00) + (if h = true ∨ a.toNat % 16 > 9 then 0x06 else 0x00),
      c || decide (a.toNat > 0x99)) := by
  simp only [daaAfterAdd, lowNibble_eq_mod, Bool.or_eq_true, decide_eq_true_eq]
  split <;> split <;> simp

theorem daaAfterSub_eq (a : Byte) (h c : Bool) : daaAfterSub a h c =
    (a - (if c = true then 0x60 else 0x00) - (if h = true then 0x06 else 0x00), c) := by
  unfold daaAfterSub
  split <;> split <;> simp

namespace State

variable (s : State)

/-- N decides which of the two algorithms gives A and C. -/
theorem decimalAdjust_a_fC : (s.decimalAdjust.a, s.decimalAdjust.fC) =
    if s.fN then daaAfterSub s.a s.fH s.fC else daaAfterAdd s.a s.fH s.fC := rfl

theorem decimalAdjust_fZ : s.decimalAdjust.fZ = decide (s.decimalAdjust.a = 0) := rfl

end State

/-! ## Packed BCD -/

theorem bcd_toNat {n : Nat} (h : n < 100) : (bcd n).toNat = n / 10 * 16 + n % 10 := by
  rw [bcd, BitVec.toNat_ofNat]
  omega

theorem bcd_eq_zero_iff {n : Nat} (h : n < 100) : bcd n = 0 ↔ n = 0 := by
  simp only [BitVec.toNat_eq, bcd_toNat h, BitVec.reduceToNat]
  omega

theorem eq_bcd_of_digits {v : Byte} {n p m : Nat} (hm : m ≤ 9) (hn : n = 10 * p + m) (hv : v.toNat = 16 * p + m) :
    v = bcd n := by
  have htens : n / 10 = p := by omega
  have hunits : n % 10 = m := by omega
  rw [bcd, htens, hunits, Nat.mul_comm, ← hv, BitVec.ofNat_toNat, BitVec.setWidth_eq]

/-- The binary sum of packed bytes whose tens add up to `t` and whose units, with the carry in, to `u`: DAA corrects
the low digit when `u` is above 9 and the high one when the decimal sum is above 99. -/
theorem daaAfterAdd_of_digits {t u : Nat} (ht : t ≤ 18) (hu : u ≤ 19) :
    daaAfterAdd (BitVec.ofNat 8 (16 * t + u)) (decide (u > 15)) (decide (16 * t + u > 255)) =
      (bcd ((10 * t + u) % 100), decide (10 * t + u ≥ 100)) := by
  have hhigh : (16 * t + u > 255 ∨ (16 * t + u) % 256 > 0x99) ↔ 10 * t + u ≥ 100 := by omega
  have hlow : (u > 15 ∨ (16 * t + u) % 256 % 16 > 9) ↔ u > 9 := by omega
  simp only [daaAfterAdd_eq, BitVec.toNat_ofNat, decide_eq_true_eq, hhigh, hlow, ← Bool.decide_or, Nat.reducePow]
  refine congrArg (·, _) ?_
  split <;> split
  · exact eq_bcd_of_digits (p := t - 9) (m := u - 10) (by omega) (by omega) (by bv_omega)
  · exact eq_bcd_of_digits (p := t - 10) (m := u) (by omega) (by omega) (by bv_omega)
  · exact eq_bcd_of_digits (p := t + 1) (m := u - 10) (by omega) (by omega) (by bv_omega)
  · exact eq_bcd_of_digits (p := t) (m := u) (by omega) (by omega) (by bv_omega)

/-- The binary difference of packed bytes with digits `p`, `m` and `q`, `n`, the borrow in counted in `n`: DAA corrects
each digit that borrowed. -/
theorem daaAfterSub_of_digits {p m q n : Nat} (hp : p ≤ 9) (hm : m ≤ 9) (hq : q ≤ 9) (hn : n ≤ 10) :
    daaAfterSub (BitVec.ofNat 8 (16 * p + m + 512 - (16 * q + n))) (decide (m < n)) (decide (16 * p + m < 16 * q + n)) =
      (bcd ((10 * p + m + 200 - (10 * q + n)) % 100), decide (10 * p + m < 10 * q + n)) := by
  have hborrow : 16 * p + m < 16 * q + n ↔ 10 * p + m < 10 * q + n := by omega
  simp only [daaAfterSub_eq, decide_eq_true_eq, hborrow]
  refine congrArg (·, _) ?_
  split <;> split
  · exact eq_bcd_of_digits (p := p + 9 - q) (m := m + 10 - n) (by omega) (by omega) (by bv_omega)
  · exact eq_bcd_of_digits (p := p + 10 - q) (m := m - n) (by omega) (by omega) (by bv_omega)
  · exact eq_bcd_of_digits (p := p - q - 1) (m := m + 10 - n) (by omega) (by omega) (by bv_omega)
  · exact eq_bcd_of_digits (p := p - q) (m := m - n) (by omega) (by omega) (by bv_omega)

theorem addWith_bcd {x y : Nat} (hx : x < 100) (hy : y < 100) (c : Bool) :
    let t := x / 10 + y / 10
    let u := x % 10 + y % 10 + c.toNat
    (addWith (bcd x) (bcd y) c).1 = BitVec.ofNat 8 (16 * t + u) ∧
      (addWith (bcd x) (bcd y) c).2.h = decide (u > 15) ∧ (addWith (bcd x) (bcd y) c).2.c = decide (16 * t + u > 255) := by
  rw [addWith_flags, bcd_toNat hx, bcd_toNat hy]
  refine ⟨BitVec.eq_of_toNat_eq ?_, decide_eq_decide.mpr (by omega), decide_eq_decide.mpr (by omega)⟩
  rw [addWith_toNat, bcd_toNat hx, bcd_toNat hy, BitVec.toNat_ofNat]
  omega

theorem subWith_bcd {x y : Nat} (hx : x < 100) (hy : y < 100) (c : Bool) :
    let a := 16 * (x / 10) + x % 10
    let n := y % 10 + c.toNat
    (subWith (bcd x) (bcd y) c).1 = BitVec.ofNat 8 (a + 512 - (16 * (y / 10) + n)) ∧
      (subWith (bcd x) (bcd y) c).2.h = decide (x % 10 < n) ∧
      (subWith (bcd x) (bcd y) c).2.c = decide (a < 16 * (y / 10) + n) := by
  rw [subWith_flags, bcd_toNat hx, bcd_toNat hy]
  refine ⟨BitVec.eq_of_toNat_eq ?_, decide_eq_decide.mpr (by omega), decide_eq_decide.mpr (by omega)⟩
  rw [subWith_toNat, bcd_toNat hx, bcd_toNat hy, BitVec.toNat_ofNat]
  omega

/-- DAA after the binary sum of two packed bytes. -/
theorem daaAfterAdd_addWith_bcd {x y : Nat} (hx : x < 100) (hy : y < 100) (c : Bool) :
    daaAfterAdd (addWith (bcd x) (bcd y) c).1 (addWith (bcd x) (bcd y) c).2.h (addWith (bcd x) (bcd y) c).2.c =
      (bcd ((x + y + c.toNat) % 100), decide (x + y + c.toNat ≥ 100)) := by
  have hc := c.toNat_le
  have hsum : 10 * (x / 10 + y / 10) + (x % 10 + y % 10 + c.toNat) = x + y + c.toNat := by omega
  obtain ⟨ha, hh, hcarry⟩ := addWith_bcd hx hy c
  rw [ha, hh, hcarry, daaAfterAdd_of_digits (by omega) (by omega), hsum]

/-- DAA after the binary difference of two packed bytes. -/
theorem daaAfterSub_subWith_bcd {x y : Nat} (hx : x < 100) (hy : y < 100) (c : Bool) :
    daaAfterSub (subWith (bcd x) (bcd y) c).1 (subWith (bcd x) (bcd y) c).2.h (subWith (bcd x) (bcd y) c).2.c =
      (bcd ((x + 200 - (y + c.toNat)) % 100), decide (x < y + c.toNat)) := by
  have hc := c.toNat_le
  have hx10 : 10 * (x / 10) + x % 10 = x := Nat.div_add_mod x 10
  have hd : 10 * (y / 10) + (y % 10 + c.toNat) = y + c.toNat := by omega
  obtain ⟨ha, hh, hborrow⟩ := subWith_bcd hx hy c
  rw [ha, hh, hborrow, daaAfterSub_of_digits (by omega) (by omega) (by omega) (by omega), hx10, hd]

/-- DAA right after an ALU operation adjusts what the operation computed. -/
theorem exec_ofAluImm_then_daa (op : AluOp) (v : Byte) (s : State) {r : Byte × Flags} {n : Nat} {c : Bool}
    (hr : aluResult op s.a v s.fC = r) (hn : n < 100)
    (hadjust : (if r.2.n then daaAfterSub r.1 r.2.h r.2.c else daaAfterAdd r.1 r.2.h r.2.c) = (bcd n, c)) :
    ∃ t u, exec (.ofAluImm op v) s = .next t ∧ exec .daa t = .next u ∧
      u.a = bcd n ∧ u.fC = c ∧ u.fZ = decide (n = 0) := by
  subst hr
  obtain ⟨ha, hc⟩ := Prod.mk.inj ((s.aluImm op v).decimalAdjust_a_fC.trans hadjust)
  refine ⟨_, _, exec_ofAluImm op v s, rfl, ha, hc, ?_⟩
  rw [State.decimalAdjust_fZ, ha]
  exact decide_eq_decide.mpr (bcd_eq_zero_iff hn)

/-! ## The obligations -/

/-- Settles O48: the two algorithms written as sums. -/
theorem daaAlgorithm : Obligations.DaaAlgorithm := by
  unfold Obligations.DaaAlgorithm
  intro s
  have hadjust := s.decimalAdjust_a_fC
  rw [daaAfterSub_eq, daaAfterAdd_eq] at hadjust
  exact ⟨s.decimalAdjust, rfl, s.decimalAdjust_fZ, s.decimalAdjust_fN, s.decimalAdjust_fH,
    fun hN => (Prod.mk.inj (hadjust.trans (if_neg (by rw [hN]; decide)))).symm,
    fun hN => (Prod.mk.inj (hadjust.trans (if_pos hN))).symm,
    s.setA_setFlags_advance_onlyRegsFlags _ _ 1, .of_mem_eq rfl⟩

/-- Settles O49: both are `addWith`, ADD without an incoming carry, and DAA corrects its digits. -/
theorem daaCorrectsAddition : Obligations.DaaCorrectsAddition := by
  unfold Obligations.DaaCorrectsAddition
  intro s x y op hx hy hop ha sum
  obtain ⟨c, hc, hresult⟩ : ∃ c : Bool, x + y + c.toNat = sum ∧
      aluResult op s.a (bcd y) s.fC = addWith (bcd x) (bcd y) c := by
    rw [ha]
    rcases hop with rfl | rfl
    · exact ⟨false, rfl, rfl⟩
    · exact ⟨s.fC, rfl, rfl⟩
  rw [← hc]
  exact exec_ofAluImm_then_daa op (bcd y) s hresult (Nat.mod_lt _ (by decide)) (daaAfterAdd_addWith_bcd hx hy c)

/-- Settles O50: both are `subWith`, SUB without an incoming carry, and DAA corrects its digits. -/
theorem daaCorrectsSubtraction : Obligations.DaaCorrectsSubtraction := by
  unfold Obligations.DaaCorrectsSubtraction
  intro s x y op hx hy hop ha d
  obtain ⟨c, hc, hresult⟩ : ∃ c : Bool, y + c.toNat = d ∧
      aluResult op s.a (bcd y) s.fC = subWith (bcd x) (bcd y) c := by
    rw [ha]
    rcases hop with rfl | rfl
    · exact ⟨false, rfl, rfl⟩
    · exact ⟨s.fC, rfl, rfl⟩
  rw [← hc]
  exact exec_ofAluImm_then_daa op (bcd y) s hresult (Nat.mod_lt _ (by decide)) (daaAfterSub_subWith_bcd hx hy c)

end Sys2Proof.Machine
end

section
/-! The rotates, shifts and SWAP behind the prefix `CB` (45_rotates_shifts.md R164 to R170, 44_misc.md R140): their
encoding, and the sums of bit fields the model computes as operations on the bits of the byte. -/

namespace Sys2Proof

/-! ## Encoding and printed figure -/

/-- `CB`, then `00 yyy zzz` (R59). -/
theorem encode_ofShift (op : ShiftOp) (o : Opnd8) :
    encode (.ofShift op o) = [0xCB, BitVec.ofNat 8 (8 * op.code + o.code)] := by
  cases op <;> cases o <;> rfl

theorem cycles_ofShift (op : ShiftOp) (o : Opnd8) : (Instr.ofShift op o).cycles = if o = .mhl then 16 else 8 := by
  cases op <;> cases o <;> rfl

/-! ## Bit fields as shifts -/

theorem field_lt (v : Byte) (lo len : Nat) : field v lo len < 2 ^ len :=
  Nat.mod_lt _ (Nat.two_pow_pos len)

/-- The bits from `k` on, moved down to bit 0. -/
theorem ofNat_field_high (v : Byte) (k : Nat) : BitVec.ofNat 8 (field v k (8 - k)) = v >>> k := by
  refine BitVec.eq_of_toNat_eq ?_
  have hlt : v.toNat / 2 ^ k < 2 ^ (8 - k) := by
    rw [Nat.div_lt_iff_lt_mul (Nat.two_pow_pos k), ← Nat.pow_add]
    exact v.isLt.trans_le (Nat.pow_le_pow_right (by decide) (by omega))
  rw [field, Nat.mod_eq_of_lt hlt, BitVec.toNat_ofNat, BitVec.toNat_ushiftRight, Nat.shiftRight_eq_div_pow]
  exact Nat.mod_eq_of_lt ((Nat.div_le_self _ _).trans_lt v.isLt)

/-- The bits below `8 - k`, moved up to bit `k`. -/
theorem ofNat_field_low_shiftLeft (v : Byte) (k : Nat) : BitVec.ofNat 8 (field v 0 (8 - k)) <<< k = v <<< k := by
  refine BitVec.eq_of_getLsbD_eq fun i hi => ?_
  simp only [field, pow_zero, Nat.div_one, BitVec.getLsbD_shiftLeft, BitVec.getLsbD_ofNat, Nat.testBit_mod_two_pow,
    BitVec.testBit_toNat]
  by_cases hk : i < k
  · simp [hk]
  · simp [show i - k < 8 - k by omega, show i - k < 8 by omega]

/-- A number placed above the `k` bits of another: their sum joins the bits of both. -/
theorem ofNat_mul_two_pow_add {k lo : Nat} (hi : Nat) (h : lo < 2 ^ k) :
    BitVec.ofNat 8 (hi * 2 ^ k + lo) = BitVec.ofNat 8 hi <<< k ||| BitVec.ofNat 8 lo := by
  rw [Nat.mul_comm, Nat.two_pow_add_eq_or_of_lt h, BitVec.ofNat_or, Nat.mul_comm, ← Nat.shiftLeft_eq]
  congr 1
  refine BitVec.eq_of_toNat_eq ?_
  simp [Nat.shiftLeft_eq, Nat.mod_mul_mod]

/-- The low part of a byte moved up to bit `k`, above a number of `k` bits. -/
theorem ofNat_field_low_add (v : Byte) (k : Nat) {lo : Nat} (h : lo < 2 ^ k) :
    BitVec.ofNat 8 (field v 0 (8 - k) * 2 ^ k + lo) = v <<< k ||| BitVec.ofNat 8 lo := by
  rw [ofNat_mul_two_pow_add _ h, ofNat_field_low_shiftLeft]

/-- The high part of a byte moved down by `k`, below a number moved up into the `k` bits left free. -/
theorem ofNat_field_high_add (v : Byte) (k hi : Nat) :
    BitVec.ofNat 8 (field v k (8 - k) + hi * 2 ^ (8 - k)) = v >>> k ||| BitVec.ofNat 8 hi <<< (8 - k) := by
  rw [Nat.add_comm, ofNat_mul_two_pow_add hi (field_lt v k _), ofNat_field_high, BitVec.or_comm]

/-- One bit is a field of width 1. -/
theorem toNat_getLsbD_eq_field (v : Byte) (k : Nat) : (v.getLsbD k).toNat = field v k 1 :=
  Nat.toNat_testBit v.toNat k

theorem ofNat_getLsbD_seven (v : Byte) : BitVec.ofNat 8 (v.getLsbD 7).toNat = v >>> 7 := by
  rw [toNat_getLsbD_eq_field, ofNat_field_high v 7]

theorem ofNat_getLsbD_zero_shiftLeft (v : Byte) : BitVec.ofNat 8 (v.getLsbD 0).toNat <<< 7 = v <<< 7 := by
  rw [toNat_getLsbD_eq_field, ofNat_field_low_shiftLeft v 7]

/-- An arithmetic shift right keeps bit 7 above the byte shifted by one (R169). -/
theorem sshiftRight_one_eq (v : Byte) : v.sshiftRight 1 = v >>> 1 ||| (v >>> 7) <<< 7 := by
  ext i hi
  by_cases hlow : i < 7
  · simp [BitVec.getElem_sshiftRight, hlow, show 1 + i < 8 by omega]
  · obtain rfl : i = 7 := by omega
    simp [BitVec.getElem_sshiftRight, BitVec.msb_eq_getLsbD_last]

end Sys2Proof

namespace Sys2Proof.Machine

/-! ## The results as operations on bits -/

/-- The sums of bit fields are the operations on bits (R164 to R170, R140). -/
theorem shiftResult_eq_rotateBits (op : ShiftOp) (v : Byte) (c : Bool) : shiftResult op v c = rotateBits op v c := by
  suffices hbyte : (shiftResult op v c).1 = (rotateBits op v c).1 by
    refine Prod.ext hbyte ?_
    cases op <;> rfl
  cases op with
  | rlc =>
    calc BitVec.ofNat 8 (field v 0 7 * 2 ^ 1 + (v.getLsbD 7).toNat)
      _ = v <<< 1 ||| BitVec.ofNat 8 (v.getLsbD 7).toNat := ofNat_field_low_add v 1 (Bool.toNat_lt _)
      _ = v <<< 1 ||| v >>> 7 := by rw [ofNat_getLsbD_seven]
  | rrc =>
    calc BitVec.ofNat 8 (field v 1 7 + (v.getLsbD 0).toNat * 2 ^ 7)
      _ = v >>> 1 ||| BitVec.ofNat 8 (v.getLsbD 0).toNat <<< 7 := ofNat_field_high_add v 1 _
      _ = v >>> 1 ||| v <<< 7 := by rw [ofNat_getLsbD_zero_shiftLeft]
  | rl =>
    calc BitVec.ofNat 8 (field v 0 7 * 2 ^ 1 + c.toNat)
      _ = v <<< 1 ||| BitVec.ofNat 8 c.toNat := ofNat_field_low_add v 1 c.toNat_lt
      _ = v <<< 1 ||| (if c then 0x01 else 0x00) := by cases c <;> rfl
  | rr =>
    calc BitVec.ofNat 8 (field v 1 7 + c.toNat * 2 ^ 7)
      _ = v >>> 1 ||| BitVec.ofNat 8 c.toNat <<< 7 := ofNat_field_high_add v 1 _
      _ = v >>> 1 ||| (if c then 0x80 else 0x00) := by cases c <;> rfl
  | sla =>
    calc BitVec.ofNat 8 (field v 0 7 * 2 ^ 1 + 0)
      _ = v <<< 1 ||| 0 := ofNat_field_low_add v 1 (by decide)
      _ = v <<< 1 := BitVec.or_zero
  | sra =>
    calc BitVec.ofNat 8 ((v.getLsbD 7).toNat * 2 ^ 7 + field v 1 7)
      _ = BitVec.ofNat 8 (field v 1 7 + (v.getLsbD 7).toNat * 2 ^ 7) := by rw [Nat.add_comm]
      _ = v >>> 1 ||| BitVec.ofNat 8 (v.getLsbD 7).toNat <<< 7 := ofNat_field_high_add v 1 _
      _ = v >>> 1 ||| (v >>> 7) <<< 7 := by rw [ofNat_getLsbD_seven]
      _ = v.sshiftRight 1 := (sshiftRight_one_eq v).symm
  | swap =>
    calc BitVec.ofNat 8 (field v 0 4 * 2 ^ 4 + field v 4 4)
      _ = v <<< 4 ||| BitVec.ofNat 8 (field v 4 4) := ofNat_field_low_add v 4 (field_lt v 4 4)
      _ = v <<< 4 ||| v >>> 4 := by rw [ofNat_field_high v 4]
  | srl => exact ofNat_field_high v 1

theorem State.shift8_rewrites (s : State) (op : ShiftOp) (o : Opnd8) :
    RewritesOperand o (shiftResult op (s.rd8 o).1 s.fC).1
      (shiftFlags (shiftResult op (s.rd8 o).1 s.fC).1 (shiftResult op (s.rd8 o).1 s.fC).2) 2 s (s.shift8 op o) :=
  s.wr8_rd8_setFlags_advance_rewrites o _ _ 2

/-! ## The obligation -/

/-- Settles O53: the rotate, shift or SWAP writes `shiftResult` back to its operand, which is `rotateBits`. -/
theorem rotatesAndShifts : Obligations.RotatesAndShifts := by
  unfold Obligations.RotatesAndShifts
  intro s op o w
  have hrewrites := s.shift8_rewrites op o
  rw [shiftResult_eq_rotateBits] at hrewrites
  exact ⟨encode_ofShift op o, cycles_ofShift op o, _, exec_ofShift op o s, hrewrites⟩

end Sys2Proof.Machine
end

section
/-! The bit opcodes behind the prefix `CB` (46_bit.md R180 to R182): each bit of the bytes that SET and RES write back, and
the flag BIT computes as a number. -/

namespace Sys2Proof.Machine

/-! ## The results bit by bit -/

/-- SET's operand has bit `k` on and every other bit as it was (R181). -/
theorem setBit_getLsbD (k : Fin 8) (v : Byte) {j : Nat} (hj : j < 8) :
    (setBit k v).getLsbD j = (decide (j = k.val) || v.getLsbD j) := by
  rw [setBit, BitVec.getLsbD_or, BitVec.getLsbD_ofNat, Nat.testBit_two_pow, decide_eq_true hj, Bool.true_and, Bool.or_comm]
  simp only [eq_comm]

/-- RES's operand has bit `k` off and every other bit as it was (R182): the mask is `2 ^ 8 - (2 ^ k + 1)`. -/
theorem resBit_getLsbD (k : Fin 8) (v : Byte) {j : Nat} (hj : j < 8) :
    (resBit k v).getLsbD j = (!decide (j = k.val) && v.getLsbD j) := by
  have hmask : (0xFF - 2 ^ k.val).testBit j = !decide (k.val = j) := by
    have h := Nat.testBit_two_pow_sub_succ (Nat.pow_lt_pow_right (a := 2) (by decide) k.isLt) j
    rw [Nat.testBit_two_pow, decide_eq_true hj, Bool.true_and] at h
    rw [← h]
    congr 1
    omega
  rw [resBit, BitVec.getLsbD_and, BitVec.getLsbD_ofNat, hmask, decide_eq_true hj, Bool.true_and, Bool.and_comm]
  simp only [eq_comm]

/-- The flags of BIT with Z as a number: the bit is one digit of the byte in base 2 (R180). -/
theorem bitFlags_eq (k : Fin 8) (v : Byte) (c : Bool) :
    bitFlags k v c = { z := decide (v.toNat / 2 ^ k.val % 2 = 0), n := false, h := true, c := c } := by
  have hz : (!v.getLsbD k.val) = decide (v.toNat / 2 ^ k.val % 2 = 0) := by
    rw [BitVec.getLsbD, Nat.testBit_eq_decide_div_mod_eq, ← decide_not, decide_eq_decide]
    omega
  rw [bitFlags, hz]

/-! ## Reads that are written back without a flag -/

namespace State

variable (s : State)

/-- Neither the read of an operand nor the write back changes a flag, so setting the flags of before changes nothing. -/
theorem wr8_rd8_setFlags_flags (o : Opnd8) (w : Byte) :
    ((s.rd8 o).2.wr8 o w).setFlags s.flags = (s.rd8 o).2.wr8 o w := by
  have hkept : ((s.rd8 o).2.wr8 o w).flags = s.flags := by simp
  rw [← hkept]
  rfl

theorem wr8_rd8_advance_rewrites (o : Opnd8) (w : Byte) (len : Word) :
    RewritesOperand o w s.flags len s (((s.rd8 o).2.wr8 o w).advance len) := by
  simpa only [wr8_rd8_setFlags_flags] using s.wr8_rd8_setFlags_advance_rewrites o w s.flags len

theorem setBit8_rewrites (k : Fin 8) (o : Opnd8) :
    RewritesOperand o (setBit k (s.rd8 o).1) s.flags 2 s (s.setBit8 k o) :=
  s.wr8_rd8_advance_rewrites o _ 2

theorem resetBit_rewrites (k : Fin 8) (o : Opnd8) :
    RewritesOperand o (resBit k (s.rd8 o).1) s.flags 2 s (s.resetBit k o) :=
  s.wr8_rd8_advance_rewrites o _ 2

/-- BIT reads its operand and does nothing else but the flags and `pc` (R180). -/
theorem testBit_eq (k : Fin 8) (o : Opnd8) : s.testBit k o = { (s.rd8 o).2 with
    fZ := decide ((s.rd8 o).1.toNat / 2 ^ k.val % 2 = 0), fN := false, fH := true, pc := s.pc + 2 } := by
  calc s.testBit k o
    _ = { (s.rd8 o).2 with
        fZ := (bitFlags k (s.rd8 o).1 s.fC).z, fN := false, fH := true, fC := s.fC, pc := (s.rd8 o).2.pc + 2 } := rfl
    _ = _ := by rw [bitFlags_eq, rd8_pc, ← s.rd8_fC o]

end State

/-! ## The obligation -/

/-- Settles O55: BIT writes nothing back; SET and RES write back `setBit` and `resBit` of the operand, whose bits are known
one by one. -/
theorem bitOpcodes : Obligations.BitOpcodes := by
  unfold Obligations.BitOpcodes
  intro s k o r
  refine ⟨⟨_, exec_ofBit k o s, .of_mem_eq (s.rd8_mem o), s.testBit_eq k o⟩, ?_, ?_⟩
  · exact ⟨_, setBit k r.1, exec_ofSet k o s, s.setBit8_rewrites k o, fun _ hj => setBit_getLsbD k r.1 hj⟩
  · exact ⟨_, resBit k r.1, exec_ofRes k o s, s.resetBit_rewrites k o, fun _ hj => resBit_getLsbD k r.1 hj⟩

end Sys2Proof.Machine
end

section
/-! The jumps (47_jumps.md): each is a write of `pc` alone, to a target that the condition and the signed byte decide. -/

namespace Sys2Proof.Machine

namespace State

variable (s : State)

/-! ## The condition and the target of a relative jump -/

/-- The table of the four conditions lists each with its test (R191). -/
theorem mem_condTable_iff (cc : Cond) (holds : Bool) :
    (cc, holds) ∈ [(Cond.nz, !s.fZ), (.z, s.fZ), (.nc, !s.fC), (.c, s.fC)] ↔ holds = s.cond cc := by
  cases cc <;> simp [cond]

/-- The target of JR as one sum that wraps: the base is the address after the two bytes of the instruction
(D16, entry 12), the byte is two's complement (R58). -/
theorem next_two_add_sext16 (e8 : Byte) : s.next 2 + sext16 e8 =
    BitVec.ofNat 16 (s.pc.toNat + 2 + (if e8.toNat < 128 then e8.toNat else e8.toNat + 0xFF00)) := by
  rw [← sext16_toNat]
  apply BitVec.eq_of_toNat_eq
  simp [next]

/-! ## Every jump as one write of `pc` -/

theorem jump_eq_with_pc (target : Word) : s.jump target = { s with pc := target } := rfl

theorem jumpIf_eq_jump (cc : Cond) (nn : Word) : s.jumpIf cc nn = s.jump (if s.cond cc then nn else s.pc + 3) :=
  (apply_ite s.jump _ nn (s.pc + 3)).symm

theorem jumpRelIf_eq_jump (cc : Cond) (e8 : Byte) :
    s.jumpRelIf cc e8 = s.jump (if s.cond cc then s.next 2 + sext16 e8 else s.pc + 2) :=
  (apply_ite s.jump _ (s.next 2 + sext16 e8) (s.pc + 2)).symm

end State

theorem exec_jp_nn_eq_jump (nn : Word) (s : State) : exec (.jp_nn nn) s = .next (s.jump nn) := rfl

theorem exec_jp_hl_eq_jump (s : State) : exec .jp_hl s = .next (s.jump s.hl) := rfl

theorem exec_jr_e8_eq_jump (e8 : Byte) (s : State) : exec (.jr_e8 e8) s = .next (s.jump (s.next 2 + sext16 e8)) := rfl

/-! ## The obligations -/

/-- Settles O57: each of these jumps is one write of `pc`, where the condition picks between the target and the address
after the instruction. -/
theorem conditionalAndRelativeJumps : Obligations.ConditionalAndRelativeJumps := by
  unfold Obligations.ConditionalAndRelativeJumps
  intro s nn e8 target
  have htarget : s.next 2 + sext16 e8 = target := s.next_two_add_sext16 e8
  refine ⟨?_, fun cc holds hmem => ?_⟩
  · rw [exec_jr_e8_eq_jump, htarget, s.jump_eq_with_pc]
  · obtain rfl := (s.mem_condTable_iff cc holds).mp hmem
    constructor
    · rw [exec_ofJp, s.jumpIf_eq_jump, s.jump_eq_with_pc]
    · rw [exec_ofJr, s.jumpRelIf_eq_jump, htarget, s.jump_eq_with_pc]

/-- Settles O56: JP nn and JP (HL) are `jump`, which writes `pc` and makes no access. -/
theorem unconditionalJumps : Obligations.UnconditionalJumps := by
  unfold Obligations.UnconditionalJumps
  intro s nn
  refine ⟨rfl, ?_, rfl, rfl, rfl, ?_⟩
  · rw [exec_jp_nn_eq_jump, s.jump_eq_with_pc]
  · rw [exec_jp_hl_eq_jump, s.jump_eq_with_pc]

end Sys2Proof.Machine
end

section
/-! The encoding read back (30_encoding.md section 6): the bytes each encoding pattern writes, in terms of its operand codes,
and that the decoder ignores no bit of the bytes it reads. -/

namespace Sys2Proof

open Machine.State (hiByte_joinBytes loByte_joinBytes)

/-! ## Encodings of the remaining patterns -/

section
variable (p : StackPair) (cc : Cond) (k : Fin 8) (o : Opnd8) (nn : Word) (e8 : Byte)

/-- `000 rr 111` (R67). -/
theorem encode_ofRotA (op : RotAOp) : encode (.ofRotA op) = [BitVec.ofNat 8 (0x07 + 8 * op.code)] := by
  cases op <;> rfl

/-- `11 pp0 101` (R105). -/
theorem encode_ofPush : encode (.ofPush p) = [BitVec.ofNat 8 (0xC5 + 16 * p.code)] := by cases p <;> rfl

/-- `11 pp0 001` (R106). -/
theorem encode_ofPop : encode (.ofPop p) = [BitVec.ofNat 8 (0xC1 + 16 * p.code)] := by cases p <;> rfl

/-- `11 0cc 010` and the word (R193). -/
theorem encode_ofJp : encode (.ofJp cc nn) = [BitVec.ofNat 8 (0xC2 + 8 * cc.code), loByte nn, hiByte nn] := by
  cases cc <;> rfl

/-- `00 1cc 000` and the byte (R195). -/
theorem encode_ofJr : encode (.ofJr cc e8) = [BitVec.ofNat 8 (0x20 + 8 * cc.code), e8] := by cases cc <;> rfl

/-- `11 0cc 100` and the word (R201). -/
theorem encode_ofCall : encode (.ofCall cc nn) = [BitVec.ofNat 8 (0xC4 + 8 * cc.code), loByte nn, hiByte nn] := by
  cases cc <;> rfl

/-- `11 0cc 000` (R211). -/
theorem encode_ofRet : encode (.ofRet cc) = [BitVec.ofNat 8 (0xC0 + 8 * cc.code)] := by cases cc <;> rfl

/-- `11 nnn 111` (R202). -/
theorem encode_ofRst : encode (.ofRst k) = [BitVec.ofNat 8 (0xC7 + 8 * k.val)] := by fin_cases k <;> rfl

/-- `CB`, then `01 bbb zzz` (R60). -/
theorem encode_ofBit : encode (.ofBit k o) = [0xCB, BitVec.ofNat 8 (0x40 + 8 * k.val + o.code)] := by
  fin_cases k <;> cases o <;> rfl

/-- `CB`, then `10 bbb zzz` (R60). -/
theorem encode_ofRes : encode (.ofRes k o) = [0xCB, BitVec.ofNat 8 (0x80 + 8 * k.val + o.code)] := by
  fin_cases k <;> cases o <;> rfl

/-- `CB`, then `11 bbb zzz` (R60). -/
theorem encode_ofSet : encode (.ofSet k o) = [0xCB, BitVec.ofNat 8 (0xC0 + 8 * k.val + o.code)] := by
  fin_cases k <;> cases o <;> rfl

end

/-! ## Codes read back -/

theorem Opnd8.code_ofCode (n : Nat) : (Opnd8.ofCode n).code = n % 8 := by grind [ofCode, code]
theorem AluOp.code_ofCode (n : Nat) : (AluOp.ofCode n).code = n % 8 := by grind [ofCode, code]
theorem ShiftOp.code_ofCode (n : Nat) : (ShiftOp.ofCode n).code = n % 8 := by grind [ofCode, code]
theorem Pair.code_ofCode (n : Nat) : (Pair.ofCode n).code = n % 4 := by grind [ofCode, code]
theorem StackPair.code_ofCode (n : Nat) : (StackPair.ofCode n).code = n % 4 := by grind [ofCode, code]
theorem Cond.code_ofCode (n : Nat) : (Cond.ofCode n).code = n % 4 := by grind [ofCode, code]
theorem RotAOp.code_ofCode (n : Nat) : (RotAOp.ofCode n).code = n % 4 := by grind [ofCode, code]
theorem val_fin8 (n : Nat) : (fin8 n).val = n % 8 := rfl

/-! ## No bit of an encoding is ignored -/

/-- A byte is its three fields `xx yyy zzz`. -/
theorem eq_ofNat_fields (v : Byte) : v = BitVec.ofNat 8 (64 * field v 6 2 + 8 * field v 3 3 + field v 0 3) := by
  have hv := v.isLt
  refine BitVec.eq_of_toNat_eq ?_
  simp only [field, BitVec.toNat_ofNat]
  omega

/-- The second byte after `CB` is written back from its three fields (R59, R60). -/
theorem encode_decodeCB (b1 : Byte) : encode (decodeCB b1) = [0xCB, b1] := by
  suffices h : ∃ m, encode (decodeCB b1) = [0xCB, BitVec.ofNat 8 m] ∧
      m = 64 * field b1 6 2 + 8 * field b1 3 3 + field b1 0 3 by
    obtain ⟨m, he, rfl⟩ := h
    rw [he, ← eq_ofNat_fields]
  have hx : field b1 6 2 < 4 := field_lt b1 6 2
  have hy : field b1 3 3 < 8 := field_lt b1 3 3
  have hz : field b1 0 3 < 8 := field_lt b1 0 3
  unfold decodeCB
  split
  · exact ⟨_, encode_ofShift _ _, by rw [ShiftOp.code_ofCode, Opnd8.code_ofCode]; omega⟩
  · exact ⟨_, encode_ofBit _ _, by rw [val_fin8, Opnd8.code_ofCode]; omega⟩
  · exact ⟨_, encode_ofRes _ _, by rw [val_fin8, Opnd8.code_ofCode]; omega⟩
  · obtain hq : field b1 6 2 = 3 := by grind
    exact ⟨_, encode_ofSet _ _, by rw [val_fin8, Opnd8.code_ofCode]; omega⟩

section
variable {i : Instr} {b1 b2 : Byte} {m n : Nat}

theorem encode_prefix_of_opcode (he : encode i = [BitVec.ofNat 8 m]) (hm : m = n) :
    encode i <+: [BitVec.ofNat 8 n, b1, b2] :=
  ⟨[b1, b2], by rw [he, hm]; rfl⟩

theorem encode_prefix_of_byte (he : encode i = [BitVec.ofNat 8 m, b1]) (hm : m = n) :
    encode i <+: [BitVec.ofNat 8 n, b1, b2] :=
  ⟨[b2], by rw [he, hm]; rfl⟩

/-- An immediate word is its two bytes, low byte first (R56). -/
theorem encode_prefix_of_word
    (he : encode i = [BitVec.ofNat 8 m, loByte (joinBytes b2 b1), hiByte (joinBytes b2 b1)]) (hm : m = n) :
    encode i <+: [BitVec.ofNat 8 n, b1, b2] :=
  ⟨[], by rw [he, hm, loByte_joinBytes, hiByte_joinBytes]; rfl⟩

/-- What quadrant `00` reads is what is written for it: byte 0 from its fields, then the bytes of the immediate. -/
theorem encode_prefix_of_decodeQuadrant0 {y z : Nat} (hy : y < 8) (hz : z < 8) (h : decodeQuadrant0 y z b1 b2 = some i) :
    encode i <+: [BitVec.ofNat 8 (8 * y + z), b1, b2] := by
  unfold decodeQuadrant0 at h
  split at h
  · split at h
    · cases h; exact encode_prefix_of_opcode rfl rfl
    · cases h; exact encode_prefix_of_word rfl rfl
    · split at h <;> cases h
      next hb1 => subst hb1; exact encode_prefix_of_byte rfl rfl
    · cases h; exact encode_prefix_of_byte rfl rfl
    · cases h; exact encode_prefix_of_byte (encode_ofJr _ _) (by rw [Cond.code_ofCode]; grind)
  · split at h <;> cases h
    · exact encode_prefix_of_word (encode_ofLdPair _ _) (by rw [Pair.code_ofCode]; omega)
    · exact encode_prefix_of_opcode (encode_ofAddHl _) (by rw [Pair.code_ofCode]; omega)
  · split at h <;> cases h
    case h_8 => exact encode_prefix_of_opcode (m := 0x3A) rfl (by grind)
    all_goals exact encode_prefix_of_opcode rfl rfl
  · split at h <;> cases h
    · exact encode_prefix_of_opcode (encode_ofIncPair _) (by rw [Pair.code_ofCode]; omega)
    · exact encode_prefix_of_opcode (encode_ofDecPair _) (by rw [Pair.code_ofCode]; omega)
  · cases h; exact encode_prefix_of_opcode (encode_ofInc _) (by rw [Opnd8.code_ofCode]; omega)
  · cases h; exact encode_prefix_of_opcode (encode_ofDec _) (by rw [Opnd8.code_ofCode]; omega)
  · cases h; exact encode_prefix_of_byte (encode_ofLdImm _ _) (by rw [Opnd8.code_ofCode]; omega)
  · obtain rfl : z = 7 := by grind
    split at h <;> cases h
    case h_5 => exact encode_prefix_of_opcode (encode_ofRotA _) (by rw [RotAOp.code_ofCode]; grind)
    all_goals exact encode_prefix_of_opcode rfl rfl

/-- The same for quadrant `11`. -/
theorem encode_prefix_of_decodeQuadrant3 {y z : Nat} (hy : y < 8) (hz : z < 8) (h : decodeQuadrant3 y z b1 b2 = some i) :
    encode i <+: [BitVec.ofNat 8 (0xC0 + 8 * y + z), b1, b2] := by
  unfold decodeQuadrant3 at h
  split at h
  · split at h <;> cases h
    case h_5 => exact encode_prefix_of_opcode (encode_ofRet _) (by rw [Cond.code_ofCode]; grind)
    all_goals exact encode_prefix_of_byte rfl rfl
  · split at h <;> cases h
    case h_5 => exact encode_prefix_of_opcode (encode_ofPop _) (by rw [StackPair.code_ofCode]; grind)
    all_goals exact encode_prefix_of_opcode rfl rfl
  · split at h <;> cases h
    · exact encode_prefix_of_opcode rfl rfl
    · exact encode_prefix_of_word rfl rfl
    · exact encode_prefix_of_opcode rfl rfl
    · exact encode_prefix_of_word rfl rfl
    · exact encode_prefix_of_word (encode_ofJp _ _) (by rw [Cond.code_ofCode]; grind)
  · split at h <;> cases h
    · exact encode_prefix_of_word rfl rfl
    · exact encode_prefix_of_byte (encode_decodeCB _) rfl
    · exact encode_prefix_of_opcode rfl rfl
    · exact encode_prefix_of_opcode rfl rfl
  · split at h <;> cases h
    exact encode_prefix_of_word (encode_ofCall _ _) (by rw [Cond.code_ofCode]; grind)
  · split at h <;> cases h
    · exact encode_prefix_of_word rfl rfl
    · exact encode_prefix_of_opcode (encode_ofPush _) (by rw [StackPair.code_ofCode]; grind)
  · cases h; exact encode_prefix_of_byte (encode_ofAluImm _ _) (by rw [AluOp.code_ofCode]; omega)
  · obtain rfl : z = 7 := by grind
    cases h; exact encode_prefix_of_opcode (encode_ofRst _) (by rw [val_fin8]; omega)

/-- What is decoded is what is written for it, byte by byte, as far as the instruction has bytes. -/
theorem encode_prefix_of_decodeBytes {b0 : Byte} (h : decodeBytes b0 b1 b2 = some i) : encode i <+: [b0, b1, b2] := by
  have hx : field b0 6 2 < 4 := field_lt b0 6 2
  have hy : field b0 3 3 < 8 := field_lt b0 3 3
  have hz : field b0 0 3 < 8 := field_lt b0 0 3
  have hb0 := eq_ofNat_fields b0
  unfold decodeBytes at h
  rw [hb0]
  split at h
  · next hq => simpa [hq] using encode_prefix_of_decodeQuadrant0 hy hz h
  · next hq =>
    cases h
    exact encode_prefix_of_opcode (encode_ofLd _ _) (by rw [Opnd8.code_ofCode, Opnd8.code_ofCode]; omega)
  · next hq =>
    cases h
    exact encode_prefix_of_opcode (encode_ofAlu _ _) (by rw [AluOp.code_ofCode, Opnd8.code_ofCode]; omega)
  · obtain hq : field b0 6 2 = 3 := by grind
    simpa [hq] using encode_prefix_of_decodeQuadrant3 hy hz h

/-- Bytes at the front of the three the decoder looks at are at the front of the list they come from, if it is long
enough: where it is not, the decoder looks at zeros. -/
theorem prefix_cons_of_prefix_getD {b0 : Byte} {l more : List Byte} (h : l <+: [b0, more.getD 0 0, more.getD 1 0])
    (hlen : l.length ≤ (b0 :: more).length) : l <+: b0 :: more := by
  match more with
  | [] => exact List.prefix_of_prefix_length_le h ⟨[0, 0], rfl⟩ hlen
  | [b] => exact List.prefix_of_prefix_length_le h ⟨[0], rfl⟩ hlen
  | b :: c :: more => exact h.trans ⟨more, rfl⟩

/-- Byte 0 of an encoding gives its length. -/
theorem length_encode_of_prefix {b0 : Byte} {l : List Byte} (h : encode i <+: b0 :: l) :
    (encode i).length = lengthOf b0 := by
  obtain ⟨c, more, he, hlen⟩ := encode_head_length i
  rw [he, List.cons_prefix_cons] at h
  rw [← hlen, h.1]

/-- What is decoded of a list is its first byte's length of bytes; the rest stands after them. -/
theorem decode_eq_instr {bytes rest : List Byte} (h : decode bytes = .instr i rest) :
    ∃ b0 more, bytes = b0 :: more ∧ lengthOf b0 ≤ bytes.length ∧
      decodeBytes b0 (more.getD 0 0) (more.getD 1 0) = some i ∧ rest = bytes.drop (lengthOf b0) := by
  unfold decode at h
  split at h
  · cases h
  · next b0 more =>
    split at h
    · cases h
    · next hlen =>
      split at h
      · next hi => cases h; exact ⟨b0, more, rfl, Nat.not_lt.mp hlen, hi, rfl⟩
      · cases h

end

end Sys2Proof

namespace Sys2Proof.Machine

/-- Settles O6: the encoding stands at the front of the bytes decoded, and byte 0 says where it ends. -/
theorem encodeOfDecode : Obligations.EncodeOfDecode := by
  unfold Obligations.EncodeOfDecode
  intro bytes rest i h
  obtain ⟨b0, more, rfl, hlen, hi, rfl⟩ := decode_eq_instr h
  have hfront := encode_prefix_of_decodeBytes hi
  have hlength := length_encode_of_prefix hfront
  have hprefix := prefix_cons_of_prefix_getD hfront (hlength.trans_le hlen)
  calc b0 :: more
    _ = encode i ++ (b0 :: more).drop (encode i).length := (List.prefix_append_drop hprefix)
    _ = encode i ++ (b0 :: more).drop (lengthOf b0) := by rw [hlength]

end Sys2Proof.Machine
end

section
/-! Runs (60_exceptions.md sections 1, 2 and 6, 70_reset_and_hazards.md section 4): what a step does in the low-power
states, that it keeps the configuration, and that a finished run stays finished. -/

namespace Sys2Proof.Machine

/-! ## The low-power states -/

namespace State

variable {s u : State}

/-- A CPU that nothing wakes stays as it is. -/
theorem stepMode_of_asleep (h : u.awake = false) : u.stepMode = .next u := by
  unfold awake at h
  unfold stepMode
  split at h
  · cases h
  · simp [stepHalted, *]
  · simp [stepStopped, *]

/-- A request ends the halted state whatever IME is; with IME clear no handler is entered (D19, entry 17). -/
theorem stepMode_of_halted_of_ime_clear (hmode : u.mode = .halted) (hpending : u.intPending = true) (hime : u.ime = false) :
    u.stepMode = .next { u with mode := .running } := by
  simp only [stepMode, hmode, stepHalted, hpending, if_true, u.intTaken_of_ime_clear hime]

theorem stepMode_of_stopped_of_wake (hmode : u.mode = .stopped) (hwake : u.stopWake = true) :
    u.stepMode = .next { u with mode := .running } := by
  simp only [stepMode, hmode, stepStopped, hwake, if_true]

theorem awake_of_halted (h : u.mode = .halted) : u.awake = u.intPending := by simp only [awake, h]

theorem awake_of_stopped (h : u.mode = .stopped) : u.awake = u.stopWake := by simp only [awake, h]

end State

/-- Settles O20: without what ends it a low-power state is one of sleep, and with it the CPU runs on. -/
theorem haltedAndStoppedSteps : Obligations.HaltedAndStoppedSteps := by
  unfold Obligations.HaltedAndStoppedSteps
  rintro s u rfl
  refine ⟨fun hmode hnone => ?_, State.stepMode_of_halted_of_ime_clear, fun hmode hnone => ?_,
    State.stepMode_of_stopped_of_wake⟩
  · exact State.stepMode_of_asleep ((State.awake_of_halted hmode).trans hnone)
  · exact State.stepMode_of_asleep ((State.awake_of_stopped hmode).trans hnone)

/-! ## Finished runs -/

theorem SameCpu.refl (s : State) : SameCpu s s := rfl

theorem SameCpu.trans {s t u : State} (h₁ : SameCpu s t) (h₂ : SameCpu t u) : SameCpu s u := by
  rw [SameCpu, h₂, h₁]

/-- The platform's doings are no doings of the CPU. -/
theorem SameCpu.of_deliver (s : State) : SameCpu s s.deliver := s.deliver_state

namespace State

variable {s : State}

/-- A finished CPU is asleep in the coming step. -/
theorem awake_deliver_of_finished (h : s.finished = true) : s.deliver.awake = false := by
  rw [finished, asleepFor, Bool.and_eq_true, Bool.not_eq_true'] at h
  exact h.1

/-- One doing of the platform later a finished run is still finished: the rest of `arrivals` decides it, and once
nothing is left the platform does not change. -/
theorem finished_deliver (h : s.finished = true) : s.deliver.finished = true := by
  cases harr : s.platform.arrivals with
  | nil => rwa [s.deliver_nil harr]
  | cons evs rest =>
    have hlen : s.deliver.platform.arrivals.length + 1 = s.platform.arrivals.length := by
      rw [s.deliver_arrivals, harr]; rfl
    rw [finished, asleepFor, Bool.and_eq_true] at h
    rw [finished, hlen]
    exact h.2

theorem step_of_finished (h : s.finished = true) : step s = .next s.deliver :=
  stepMode_of_asleep (awake_deliver_of_finished h)

end State

/-- A run of one step more makes that step first. -/
theorem run_succ_of_step {M : Host.Core} {s u : M.State} (h : M.step s = .next u) (n : Nat) :
    M.run (n + 1) s = M.run n u := by
  rw [Host.Core.run, h]

/-- Settles O23: each step of a finished run is the platform's doing alone, and leaves it finished. -/
theorem finishedRunStutters : Obligations.FinishedRunStutters := by
  unfold Obligations.FinishedRunStutters
  intro s n h
  induction n generalizing s with
  | zero => exact ⟨s, rfl, .refl s, h⟩
  | succ n ih =>
    obtain ⟨t, hrun, hsame, ht⟩ := ih s.deliver (State.finished_deliver h)
    have hfirst := run_succ_of_step (M := core) (State.step_of_finished h) n
    exact ⟨t, hfirst.trans hrun, (SameCpu.of_deliver s).trans hsame, ht⟩

/-! ## The configuration -/

/-- Nothing that a step can make of a state changes the parameters. -/
theorem StepsTo.params_eq {u t : State} (h : StepsTo u t) : t.params = u.params := by
  cases h with
  | instr i v t hmode hnone hfetch hexec =>
    obtain ⟨hparams, -⟩ := AccessesOnly.of_exec hexec
    obtain ⟨-, -, hfetched, -⟩ := u.fetch_frame i v hfetch
    rw [hparams, v.applyImePending_params, hfetched]
  | interrupt vector w hmode hime hselect =>
    obtain ⟨-, hselected⟩ := u.intSelect_wf _ hselect
    exact (w.takeInterrupt_params vector).trans hselected
  | sleep hasleep => rfl
  | wake hmode hawake hnone => rfl

/-- Settles O4: neither the platform's doings nor what the step does after them changes the parameters. -/
theorem stepKeepsTheParameters : Obligations.StepKeepsTheParameters := by
  unfold Obligations.StepKeepsTheParameters
  intro s t h
  exact (stepsTo_of_step h).params_eq.trans s.deliver_params

end Sys2Proof.Machine
end

section
/-! The bytes that are no instruction (30_encoding.md section 5; decisions D9 and D20, entries 9 and 18), and what a fetch
does with them and with the byte stored last. -/

namespace Sys2Proof

/-- The eleven bytes the opcode table does not list (R57). -/
def unlistedBytes : List Byte := [0xD3, 0xDB, 0xDD, 0xE3, 0xE4, 0xEB, 0xEC, 0xED, 0xF4, 0xFC, 0xFD]

/-- Their places in quadrant `11`: columns 3, 4 and 5 of `z`. -/
def unlistedAt (y z : Nat) : Bool :=
  decide (z = 3 ∧ 2 ≤ y ∧ y ≤ 5 ∨ z = 4 ∧ 4 ≤ y ∨ z = 5 ∧ (y = 3 ∨ y = 5 ∨ y = 7))

theorem mem_unlistedBytes_iff (b0 : Byte) :
    b0 ∈ unlistedBytes ↔ field b0 6 2 = 3 ∧ unlistedAt (field b0 3 3) (field b0 0 3) = true := by
  revert b0
  decide

theorem eq_stop_iff (b0 : Byte) : b0 = 0x10 ↔ field b0 6 2 = 0 ∧ field b0 3 3 = 2 ∧ field b0 0 3 = 0 := by
  revert b0
  decide

/-- Quadrant `00` has one gap: `10 xx` with `xx` other than 00 (R62). -/
theorem decodeQuadrant0_eq_none_iff (y z : Nat) (b1 b2 : Byte) :
    decodeQuadrant0 y z b1 b2 = none ↔ (y = 2 ∧ z = 0) ∧ b1 ≠ 0 := by
  unfold decodeQuadrant0
  split
  case h_1 => split <;> simp_all  -- z = 0: STOP is the one entry that is refused for its byte 1
  case h_2 | h_3 | h_4 | h_8 => split <;> simp_all
  all_goals simp

/-- Quadrant `11` has the eleven gaps (R57). -/
theorem decodeQuadrant3_eq_none_iff {y : Nat} (hy : y < 8) (z : Nat) (b1 b2 : Byte) :
    decodeQuadrant3 y z b1 b2 = none ↔ unlistedAt y z = true := by
  unfold decodeQuadrant3 unlistedAt
  split
  case h_4 => split <;> grind  -- z = 3: D3 DB E3 EB
  case h_5 => split <;> grind  -- z = 4: E4 EC F4 FC
  case h_6 => split <;> grind  -- z = 5: DD ED FD
  case h_1 | h_2 | h_3 => split <;> simp
  all_goals grind

theorem decodeBytes_eq_none_iff (b0 b1 b2 : Byte) :
    decodeBytes b0 b1 b2 = none ↔ b0 ∈ unlistedBytes ∨ (b0 = 0x10 ∧ b1 ≠ 0x00) := by
  have hx : field b0 6 2 < 4 := field_lt b0 6 2
  rw [mem_unlistedBytes_iff, eq_stop_iff]
  unfold decodeBytes
  split
  · next hq => simp [hq, decodeQuadrant0_eq_none_iff]
  · next hq => simp [hq]
  · next hq => simp [hq]
  · obtain hq : field b0 6 2 = 3 := by grind
    simp [hq, decodeQuadrant3_eq_none_iff (field_lt b0 3 3)]

end Sys2Proof

namespace Sys2Proof.Machine

/-- Settles O8: quadrant by quadrant, the gaps of the decoder. -/
theorem illegalOpcodesAreExactlyThese : Obligations.IllegalOpcodesAreExactlyThese := by
  unfold Obligations.IllegalOpcodesAreExactlyThese
  exact decodeBytes_eq_none_iff

namespace State

variable {s s₀ s₁ u : State} {b0 b1 : Byte}

/-- The fetch of a byte that is no instruction, whatever stands after it. -/
theorem fetch_of_unlisted (h0 : s.memRead s.pc = (b0, s₀)) (h : b0 ∈ unlistedBytes) : s.fetch = .illegal b0 := by
  have hnone (b1 b2 : Byte) : decodeBytes b0 b1 b2 = none := (decodeBytes_eq_none_iff b0 b1 b2).mpr (.inl h)
  simp only [fetch, h0, hnone]

/-- The fetch of `10 xx` with `xx` other than 00: byte 1 is read at `pc + 1`. -/
theorem fetch_of_stop_malformed (h0 : s.memRead s.pc = (0x10, s₀)) (h1 : s₀.memRead (s.pc + 1) = (b1, s₁)) (hne : b1 ≠ 0x00) :
    s.fetch = .illegal 0x10 := by
  have hread : s₀.fetchByte (lengthOf 0x10) 1 = (b1, s₁) :=
    (fetchByte_within (pc_of_memRead_eq h0) (by decide)).trans h1
  have hnone (b2 : Byte) : decodeBytes 0x10 b1 b2 = none := (decodeBytes_eq_none_iff 0x10 b1 b2).mpr (.inr ⟨rfl, hne⟩)
  simp only [fetch, h0, hread, hnone]

theorem stepMode_of_illegal (hmode : u.mode = .running) (hnone : u.intTaken = none) (hfetch : u.fetch = .illegal b0) :
    u.stepMode = .fault (.illegalOpcode b0) := by
  simp only [stepMode, hmode, stepRunning, hnone, executeOne, hfetch]

end State

/-- Settles O9: either kind of word makes the fetch illegal, and a running step with no interrupt to take is the fetch. -/
theorem illegalOpcodeFaults : Obligations.IllegalOpcodeFaults := by
  unfold Obligations.IllegalOpcodeFaults
  rintro s u rfl hmode hnone r0 r1 hword
  refine State.stepMode_of_illegal hmode hnone ?_
  obtain hlisted | ⟨hstop, hne⟩ := hword
  · exact State.fetch_of_unlisted (s₀ := r0.2) rfl hlisted
  · have h0 : s.deliver.memRead s.deliver.pc = (0x10, r0.2) := Prod.ext hstop rfl
    rw [hstop]
    exact State.fetch_of_stop_malformed h0 Prod.mk.eta.symm hne

/-- Settles O11: a read of RAM at `pc` gives the byte stored last and changes nothing, and one byte is all that is read. -/
theorem fetchSeesTheLatestStore : Obligations.FetchSeesTheLatestStore := by
  unfold Obligations.FetchSeesTheLatestStore
  intro s v i hwf hram hlen hi
  have hkind : (s.memWrite s.pc v).kindAt s.pc = .ram := (s.memWrite_kindAt s.pc s.pc v).trans hram
  have hread : (s.memWrite s.pc v).memRead (s.memWrite s.pc v).pc = (v, s.memWrite s.pc v) := by
    rw [s.memWrite_pc, State.memRead_stored _ _ (.inl hkind), s.memWrite_peek_same _ _ hram hwf]
  exact State.fetch_of_length_one hread hlen hi

end Sys2Proof.Machine
end

section
/-! What every instruction has in common: where it leaves `pc`, and that it neither reads nor writes the control state,
which is IME, `ime_pending` and the mode, but for EI, DI, RETI, HALT and STOP (10_state.md sections 2, 4 and 7). -/

namespace Sys2Proof.Machine

/-- Settles O14: every instruction's accesses end in a state. -/
theorem everyInstructionCompletes : Obligations.EveryInstructionCompletes := by
  unfold Obligations.EveryInstructionCompletes
  intro i s
  obtain ⟨t, hexec, -⟩ := exec_accesses i s
  exact ⟨t, hexec⟩

/-! ## The address after an instruction -/

section
variable (cc : Cond) (k : Fin 8) (nn : Word) (e8 : Byte)

@[simp] theorem isTransfer_ofJp : isTransfer (.ofJp cc nn) = true := by cases cc <;> rfl
@[simp] theorem isTransfer_ofJr : isTransfer (.ofJr cc e8) = true := by cases cc <;> rfl
@[simp] theorem isTransfer_ofCall : isTransfer (.ofCall cc nn) = true := by cases cc <;> rfl
@[simp] theorem isTransfer_ofRet : isTransfer (.ofRet cc) = true := by cases cc <;> rfl
@[simp] theorem isTransfer_ofRst : isTransfer (.ofRst k) = true := by fin_cases k <;> rfl

end

/-- An instruction that is no control transfer ends at the address after its encoding, form by form. -/
theorem exec_pc_of_not_transfer {i : Instr} (h : isTransfer i = false) (s : State) :
    ∃ t, exec i s = .next t ∧ t.pc = s.pc + BitVec.ofNat 16 (encode i).length := by
  cases i.form with
  | jp_hl | ret | reti => cases h
  | jp_nn nn | call_nn nn => cases h
  | jr_e8 e8 => cases h
  | jp cc nn => simp at h
  | jr cc e8 => simp at h
  | call cc nn => simp at h
  | rst k => simp at h
  | retIf cc => simp at h
  | nop | stop | halt | ei | ld_sp_hl => exact ⟨_, rfl, rfl⟩
  | di => exact ⟨_, rfl, s.disableInterrupts_pc⟩
  | daa => exact ⟨_, rfl, s.decimalAdjust_pc⟩
  | cpl => exact ⟨_, rfl, s.complementA_pc⟩
  | scf => exact ⟨_, rfl, s.setCarry_pc⟩
  | ccf => exact ⟨_, rfl, s.complementCarry_pc⟩
  | ld x y hxy => exact ⟨_, exec_ofLd x y hxy s, by rw [encode_ofLd]; exact s.load8_pc x y⟩
  | ldImm x n => exact ⟨_, exec_ofLdImm x n s, by rw [encode_ofLdImm]; exact s.loadImm8_pc x n⟩
  | ld_mbc_a | ld_mde_a | ld_mc_a => exact ⟨_, rfl, s.storeA_pc _ 1⟩
  | ldh_mn_a n => exact ⟨_, rfl, s.storeA_pc _ 2⟩
  | ld_mnn_a nn => exact ⟨_, rfl, s.storeA_pc nn 3⟩
  | ld_a_mbc | ld_a_mde | ld_a_mc => exact ⟨_, rfl, s.loadA_pc _ 1⟩
  | ldh_a_mn n => exact ⟨_, rfl, s.loadA_pc _ 2⟩
  | ld_a_mnn nn => exact ⟨_, rfl, s.loadA_pc nn 3⟩
  | ldi_mhl_a | ldd_mhl_a => exact ⟨_, rfl, s.storeAStep_pc _⟩
  | ldi_a_mhl | ldd_a_mhl => exact ⟨_, rfl, s.loadAStep_pc _⟩
  | ldPair p nn => exact ⟨_, exec_ofLdPair p nn s, by rw [encode_ofLdPair]; exact s.loadPair_pc p nn⟩
  | ld_mnn_sp nn => exact ⟨_, rfl, s.storeSP_pc nn⟩
  | ldhl_sp_e8 e8 => exact ⟨_, rfl, s.loadHlSp_pc e8⟩
  | push p => exact ⟨_, exec_ofPush p s, by rw [encode_ofPush]; exact s.push_pc p⟩
  | pop p => exact ⟨_, exec_ofPop p s, by rw [encode_ofPop]; exact s.pop_pc p⟩
  | alu op o => exact ⟨_, exec_ofAlu op o s, by rw [encode_ofAlu]; exact s.alu_pc op o⟩
  | aluImm op n => exact ⟨_, exec_ofAluImm op n s, by rw [encode_ofAluImm]; exact s.aluImm_pc op n⟩
  | inc o => exact ⟨_, exec_ofInc o s, by rw [encode_ofInc]; exact s.inc8_pc o⟩
  | dec o => exact ⟨_, exec_ofDec o s, by rw [encode_ofDec]; exact s.dec8_pc o⟩
  | addHl p => exact ⟨_, exec_ofAddHl p s, by rw [encode_ofAddHl]; exact s.addHl_pc p⟩
  | incPair p => exact ⟨_, exec_ofIncPair p s, by rw [encode_ofIncPair]; exact s.incPair_pc p⟩
  | decPair p => exact ⟨_, exec_ofDecPair p s, by rw [encode_ofDecPair]; exact s.decPair_pc p⟩
  | add_sp_e8 e8 => exact ⟨_, rfl, s.addSp_pc e8⟩
  | rotA op => exact ⟨_, exec_ofRotA op s, by rw [encode_ofRotA]; exact s.rotateA_pc op⟩
  | shift op o => exact ⟨_, exec_ofShift op o s, by rw [encode_ofShift]; exact s.shift8_pc op o⟩
  | bit k o => exact ⟨_, exec_ofBit k o s, by rw [encode_ofBit]; exact s.testBit_pc k o⟩
  | res k o => exact ⟨_, exec_ofRes k o s, by rw [encode_ofRes]; exact s.resetBit_pc k o⟩
  | set k o => exact ⟨_, exec_ofSet k o s, by rw [encode_ofSet]; exact s.setBit8_pc k o⟩

/-- Settles O12: `exec_pc_of_not_transfer` says where the one state ends that the instruction gives. -/
theorem pcAdvancesByTheLength : Obligations.PcAdvancesByTheLength := by
  unfold Obligations.PcAdvancesByTheLength
  intro i s t hi h
  obtain ⟨u, hexec, hpc⟩ := exec_pc_of_not_transfer hi s
  cases h.symm.trans hexec
  exact hpc

/-! ## The control state -/

/-- `s` with another IME, `ime_pending` and mode. -/
def State.withControl (s : State) (x : Bool) (p : ImePending) (m : Mode) : State :=
  { s with ime := x, imePending := p, mode := m }

/-- The operation neither reads nor writes the control state. -/
def ControlBlind (f : State → State) : Prop :=
  ∀ (s : State) (x : Bool) (p : ImePending) (m : Mode), f (s.withControl x p m) = (f s).withControl x p m

namespace State

variable (s : State) (x : Bool) (p : ImePending) (m : Mode)

/-- Only the map and the platform decide what an access does. -/
theorem memRead_withControl (a : Word) :
    (s.withControl x p m).memRead a = ((s.memRead a).1, (s.memRead a).2.withControl x p m) := by
  have hkind : (s.withControl x p m).kindAt a = s.kindAt a := rfl
  unfold memRead
  rw [hkind]
  cases s.kindAt a <;> rfl

theorem memWrite_withControl (a : Word) (v : Byte) :
    (s.withControl x p m).memWrite a v = (s.memWrite a v).withControl x p m := by
  have hkind : (s.withControl x p m).kindAt a = s.kindAt a := rfl
  unfold memWrite
  rw [hkind]
  cases s.kindAt a <;> rfl

theorem rd8_withControl (o : Opnd8) :
    (s.withControl x p m).rd8 o = ((s.rd8 o).1, (s.rd8 o).2.withControl x p m) := by
  cases o with
  | mhl => exact s.memRead_withControl x p m s.hl
  | _ => rfl

theorem wr8_withControl (o : Opnd8) (v : Byte) : (s.withControl x p m).wr8 o v = (s.wr8 o v).withControl x p m := by
  cases o with
  | mhl => exact s.memWrite_withControl x p m s.hl v
  | _ => rfl

theorem setPair_withControl (q : Pair) (v : Word) :
    (s.withControl x p m).setPair q v = (s.setPair q v).withControl x p m := by
  cases q <;> rfl

theorem setStackPair_withControl (q : StackPair) (v : Word) :
    (s.withControl x p m).setStackPair q v = (s.setStackPair q v).withControl x p m := by
  cases q <;> rfl

theorem getPair_withControl (q : Pair) : (s.withControl x p m).getPair q = s.getPair q := by
  cases q <;> rfl

theorem getStackPair_withControl (q : StackPair) : (s.withControl x p m).getStackPair q = s.getStackPair q := by
  cases q <;> rfl

theorem cond_withControl (cc : Cond) : (s.withControl x p m).cond cc = s.cond cc := by
  cases cc <;> rfl

theorem push16_withControl (v : Word) : (s.withControl x p m).push16 v = (s.push16 v).withControl x p m := by
  rw [push16_spec, push16_spec, memWrite_withControl, memWrite_withControl]
  rfl

theorem pop16_withControl : (s.withControl x p m).pop16 = (s.pop16.1, s.pop16.2.withControl x p m) := by
  have hsp (u : State) : (u.withControl x p m).setSP = fun v => (u.setSP v).withControl x p m := rfl
  simp only [pop16, memRead_withControl, hsp]
  rfl

end State

namespace ControlBlind
open State

/-! ### Loads -/

theorem load8 (dst src : Opnd8) : ControlBlind (·.load8 dst src) := fun s x p m => by
  simp only [State.load8, rd8_withControl, wr8_withControl]; rfl

theorem loadImm8 (dst : Opnd8) (n : Byte) : ControlBlind (·.loadImm8 dst n) := fun s x p m => by
  simp only [State.loadImm8, wr8_withControl]; rfl

/-- The address may depend on the registers, which are no control state. -/
theorem loadA {addr : State → Word} (h : ∀ s x p m, addr (withControl s x p m) = addr s) (len : Word) :
    ControlBlind fun s => s.loadA (addr s) len := fun s x p m => by
  simp only [State.loadA, h, memRead_withControl]; rfl

theorem storeA {addr : State → Word} (h : ∀ s x p m, addr (withControl s x p m) = addr s) (len : Word) :
    ControlBlind fun s => s.storeA (addr s) len := fun s x p m => by
  have ha : (s.withControl x p m).a = s.a := rfl
  simp only [State.storeA, h, ha, memWrite_withControl]; rfl

theorem loadAStep (k : Word) : ControlBlind (·.loadAStep k) := fun s x p m => by
  have hhl : (s.withControl x p m).hl = s.hl := rfl
  simp only [State.loadAStep, hhl, memRead_withControl]; rfl

theorem storeAStep (k : Word) : ControlBlind (·.storeAStep k) := fun s x p m => by
  have hhl : (s.withControl x p m).hl = s.hl := rfl
  have ha : (s.withControl x p m).a = s.a := rfl
  simp only [State.storeAStep, hhl, ha, memWrite_withControl]; rfl

theorem loadPair (q : Pair) (nn : Word) : ControlBlind (·.loadPair q nn) := fun s x p m => by
  simp only [State.loadPair, setPair_withControl]; rfl

theorem storeSP (nn : Word) : ControlBlind (·.storeSP nn) := fun s x p m => by
  have hsp : (s.withControl x p m).sp = s.sp := rfl
  simp only [State.storeSP, hsp, memWrite_withControl]; rfl

theorem push (q : StackPair) : ControlBlind (·.push q) := fun s x p m => by
  simp only [State.push, getStackPair_withControl, push16_withControl]; rfl

theorem pop (q : StackPair) : ControlBlind (·.pop q) := fun s x p m => by
  simp only [State.pop, pop16_withControl, setStackPair_withControl]; rfl

/-! ### Arithmetic and bits -/

theorem alu (op : AluOp) (o : Opnd8) : ControlBlind (·.alu op o) := fun s x p m => by
  simp only [State.alu, rd8_withControl]; rfl

theorem inc8 (o : Opnd8) : ControlBlind (·.inc8 o) := fun s x p m => by
  simp only [State.inc8, rd8_withControl, wr8_withControl]; rfl

theorem dec8 (o : Opnd8) : ControlBlind (·.dec8 o) := fun s x p m => by
  simp only [State.dec8, rd8_withControl, wr8_withControl]; rfl

theorem addHl (q : Pair) : ControlBlind (·.addHl q) := fun s x p m => by
  simp only [State.addHl, getPair_withControl]; rfl

theorem incPair (q : Pair) : ControlBlind (·.incPair q) := fun s x p m => by
  simp only [State.incPair, getPair_withControl, setPair_withControl]; rfl

theorem decPair (q : Pair) : ControlBlind (·.decPair q) := fun s x p m => by
  simp only [State.decPair, getPair_withControl, setPair_withControl]; rfl

theorem shift8 (op : ShiftOp) (o : Opnd8) : ControlBlind (·.shift8 op o) := fun s x p m => by
  have hc : (s.withControl x p m).fC = s.fC := rfl
  simp only [State.shift8, hc, rd8_withControl, wr8_withControl]; rfl

theorem testBit (k : Fin 8) (o : Opnd8) : ControlBlind (·.testBit k o) := fun s x p m => by
  simp only [State.testBit, rd8_withControl]; rfl

theorem setBit8 (k : Fin 8) (o : Opnd8) : ControlBlind (·.setBit8 k o) := fun s x p m => by
  simp only [State.setBit8, rd8_withControl, wr8_withControl]; rfl

theorem resetBit (k : Fin 8) (o : Opnd8) : ControlBlind (·.resetBit k o) := fun s x p m => by
  simp only [State.resetBit, rd8_withControl, wr8_withControl]; rfl

/-! ### Transfers -/

/-- A choice by a condition, which is read off the flags. -/
theorem ite_cond {f g : State → State} (cc : Cond) (hf : ControlBlind f) (hg : ControlBlind g) :
    ControlBlind fun s => if s.cond cc then f s else g s := fun s x p m => by
  simp only [cond_withControl, hf s, hg s, apply_ite (State.withControl · x p m)]

theorem jump (a : Word) : ControlBlind (·.jump a) := fun _ _ _ _ => rfl

theorem advance (len : Word) : ControlBlind (·.advance len) := fun _ _ _ _ => rfl

theorem jumpRel (e8 : Byte) : ControlBlind (·.jumpRel e8) := fun _ _ _ _ => rfl

theorem call (target len : Word) : ControlBlind (·.call target len) := fun s x p m => by
  have hnext : (s.withControl x p m).next len = s.next len := rfl
  simp only [State.call, hnext, push16_withControl]; rfl

theorem ret : ControlBlind State.ret := fun s x p m => by
  simp only [State.ret, pop16_withControl]; rfl

end ControlBlind

/-- The instruction is an operation that neither reads nor writes the control state. -/
def ExecControlBlind (i : Instr) : Prop := ∃ f : State → State, (∀ s, exec i s = .next (f s)) ∧ ControlBlind f

/-- EI, DI, RETI, HALT and STOP are the only instructions that touch the control state, form by form. -/
theorem execControlBlind_of_ne {i : Instr} (hei : i ≠ .ei) (hdi : i ≠ .di) (hreti : i ≠ .reti) (hhalt : i ≠ .halt)
    (hstop : i ≠ .stop) : ExecControlBlind i := by
  cases i.form with
  | ei => exact absurd rfl hei
  | di => exact absurd rfl hdi
  | reti => exact absurd rfl hreti
  | halt => exact absurd rfl hhalt
  | stop => exact absurd rfl hstop
  | nop | ld_sp_hl | jp_hl | daa | cpl | scf | ccf => exact ⟨_, fun _ => rfl, fun _ _ _ _ => rfl⟩
  | ldhl_sp_e8 e8 | add_sp_e8 e8 | jr_e8 e8 => exact ⟨_, fun _ => rfl, fun _ _ _ _ => rfl⟩
  | jp_nn nn => exact ⟨_, fun _ => rfl, .jump nn⟩
  | ld x y hxy => exact ⟨_, exec_ofLd x y hxy, .load8 x y⟩
  | ldImm x n => exact ⟨_, exec_ofLdImm x n, .loadImm8 x n⟩
  | ld_mbc_a | ld_mde_a | ld_mc_a => exact ⟨_, fun _ => rfl, .storeA (fun _ _ _ _ => rfl) 1⟩
  | ldh_mn_a n => exact ⟨_, fun _ => rfl, .storeA (fun _ _ _ _ => rfl) 2⟩
  | ld_mnn_a nn => exact ⟨_, fun _ => rfl, .storeA (fun _ _ _ _ => rfl) 3⟩
  | ld_a_mbc | ld_a_mde | ld_a_mc => exact ⟨_, fun _ => rfl, .loadA (fun _ _ _ _ => rfl) 1⟩
  | ldh_a_mn n => exact ⟨_, fun _ => rfl, .loadA (fun _ _ _ _ => rfl) 2⟩
  | ld_a_mnn nn => exact ⟨_, fun _ => rfl, .loadA (fun _ _ _ _ => rfl) 3⟩
  | ldi_mhl_a | ldd_mhl_a => exact ⟨_, fun _ => rfl, .storeAStep _⟩
  | ldi_a_mhl | ldd_a_mhl => exact ⟨_, fun _ => rfl, .loadAStep _⟩
  | ldPair q nn => exact ⟨_, exec_ofLdPair q nn, .loadPair q nn⟩
  | ld_mnn_sp nn => exact ⟨_, fun _ => rfl, .storeSP nn⟩
  | push q => exact ⟨_, exec_ofPush q, .push q⟩
  | pop q => exact ⟨_, exec_ofPop q, .pop q⟩
  | alu op o => exact ⟨_, exec_ofAlu op o, .alu op o⟩
  | aluImm op n => exact ⟨_, exec_ofAluImm op n, fun _ _ _ _ => rfl⟩
  | inc o => exact ⟨_, exec_ofInc o, .inc8 o⟩
  | dec o => exact ⟨_, exec_ofDec o, .dec8 o⟩
  | addHl q => exact ⟨_, exec_ofAddHl q, .addHl q⟩
  | incPair q => exact ⟨_, exec_ofIncPair q, .incPair q⟩
  | decPair q => exact ⟨_, exec_ofDecPair q, .decPair q⟩
  | rotA op => exact ⟨_, exec_ofRotA op, fun _ _ _ _ => rfl⟩
  | shift op o => exact ⟨_, exec_ofShift op o, .shift8 op o⟩
  | bit k o => exact ⟨_, exec_ofBit k o, .testBit k o⟩
  | res k o => exact ⟨_, exec_ofRes k o, .resetBit k o⟩
  | set k o => exact ⟨_, exec_ofSet k o, .setBit8 k o⟩
  | jp cc nn => exact ⟨_, exec_ofJp cc nn, .ite_cond cc (.jump nn) (.advance 3)⟩
  | jr cc e8 => exact ⟨_, exec_ofJr cc e8, .ite_cond cc (.jumpRel e8) (.advance 2)⟩
  | call_nn nn => exact ⟨_, fun _ => rfl, .call nn 3⟩
  | call cc nn => exact ⟨_, exec_ofCall cc nn, .ite_cond cc (.call nn 3) (.advance 3)⟩
  | rst k => exact ⟨_, exec_ofRst k, .call _ 1⟩
  | ret => exact ⟨_, fun _ => rfl, .ret⟩
  | retIf cc => exact ⟨_, exec_ofRet cc, .ite_cond cc .ret (.advance 1)⟩

namespace ExecControlBlind

variable {i : Instr} {s t : State}

/-- The instruction gives the same from every control state. -/
theorem exec_withControl (hi : ExecControlBlind i) (h : exec i s = .next t) (x : Bool) (p : ImePending) (m : Mode) :
    exec i (s.withControl x p m) = .next (t.withControl x p m) := by
  obtain ⟨f, hf, hblind⟩ := hi
  cases h.symm.trans (hf s)
  rw [hf, hblind]

/-- It leaves the control state: it gives the same from the control state that `s` has already. -/
theorem control_eq (hi : ExecControlBlind i) (h : exec i s = .next t) :
    t.ime = s.ime ∧ t.imePending = s.imePending ∧ t.mode = s.mode := by
  have hsame := hi.exec_withControl h s.ime s.imePending s.mode
  have ht : t = t.withControl s.ime s.imePending s.mode := Host.Outcome.next.inj (h.symm.trans hsame)
  rw [ht]
  exact ⟨rfl, rfl, rfl⟩

end ExecControlBlind

/-! ## The obligations -/

/-- Settles O15: what is neither HALT nor STOP keeps the mode, EI, DI and RETI too, though they change IME. -/
theorem onlyHaltAndStopChangeTheMode : Obligations.OnlyHaltAndStopChangeTheMode := by
  unfold Obligations.OnlyHaltAndStopChangeTheMode
  intro i s t h
  by_cases hhalt : i = .halt
  · subst hhalt; cases h; rfl
  by_cases hstop : i = .stop
  · subst hstop; cases h; rfl
  rw [if_neg hhalt, if_neg hstop]
  by_cases hei : i = .ei
  · subst hei; cases h; rfl
  by_cases hdi : i = .di
  · subst hdi; cases h; exact s.disableInterrupts_mode
  by_cases hreti : i = .reti
  · subst hreti; cases h; exact s.returnFromInterrupt_mode
  obtain ⟨-, -, hmode⟩ := (execControlBlind_of_ne hei hdi hreti hhalt hstop).control_eq h
  exact hmode

/-- Settles O17: HALT and STOP write the mode alone, and every other of these instructions is blind to the control state. -/
theorem noInstructionReadsIme : Obligations.NoInstructionReadsIme := by
  unfold Obligations.NoInstructionReadsIme
  intro i s t x p hei hdi hreti h
  by_cases hhalt : i = .halt
  · subst hhalt; cases h; exact ⟨rfl, rfl, rfl⟩
  by_cases hstop : i = .stop
  · subst hstop; cases h; exact ⟨rfl, rfl, rfl⟩
  have hi := execControlBlind_of_ne hei hdi hreti hhalt hstop
  obtain ⟨hime, hpending, hmode⟩ := hi.control_eq h
  have hother := hi.exec_withControl h x p s.mode
  have hkeep : t.withControl x p s.mode = { t with ime := x, imePending := p } := by rw [← hmode]; rfl
  exact ⟨hime, hpending, hother.trans (congrArg _ hkeep)⟩

end Sys2Proof.Machine
end

section
/-! Calls, restarts, returns and the return from an interrupt (48_calls_restarts.md, 49_returns.md, 60_exceptions.md
sections 4 and 5): a push of the address to come back to and a jump, undone by a pop of `pc`. -/

namespace Sys2Proof.Machine

namespace State

variable (s : State)

theorem call_pushes (target len : Word) : PushesAndJumps (s.pc + len) target s (s.call target len) :=
  s.push16_jump_pushes _ _

theorem callIf_of_cond {cc : Cond} (h : s.cond cc = true) (nn : Word) : s.callIf cc nn = s.call nn 3 := if_pos h

theorem callIf_of_not_cond {cc : Cond} (h : s.cond cc = false) (nn : Word) : s.callIf cc nn = s.advance 3 := by
  simp only [callIf, h, Bool.false_eq_true, if_false]

theorem retIf_of_cond {cc : Cond} (h : s.cond cc = true) : s.retIf cc = s.ret := if_pos h

theorem retIf_of_not_cond {cc : Cond} (h : s.cond cc = false) : s.retIf cc = s.advance 1 := by
  simp only [retIf, h, Bool.false_eq_true, if_false]

/-- The two reads at the top of the stack change the bus log and the platform cells at most. -/
theorem stackTop_frame : s.stackTop.2.2 = { s with
    platform := { s.platform with bus := s.stackTop.2.2.platform.bus, cells := s.stackTop.2.2.platform.cells } } := by
  have hlo := s.memRead_frame s.sp
  have hhi := (s.memRead s.sp).2.memRead_frame (s.sp + 1)
  change ((s.memRead s.sp).2.memRead (s.sp + 1)).2 = { s with platform := { s.platform with
    bus := ((s.memRead s.sp).2.memRead (s.sp + 1)).2.platform.bus
    cells := ((s.memRead s.sp).2.memRead (s.sp + 1)).2.platform.cells } }
  generalize ((s.memRead s.sp).2.memRead (s.sp + 1)).2 = u at hhi ⊢
  generalize (s.memRead s.sp).2 = t at hlo hhi
  rw [hhi, hlo]

theorem ret_eq_stackTop :
    s.ret = { s.stackTop.2.2 with sp := s.sp + 2, pc := joinBytes s.stackTop.2.1 s.stackTop.1 } := by
  rw [ret, pop16_eq_stackTop]
  rfl

theorem ret_pops : PopsPc s s.ret := by
  have hret := s.ret_eq_stackTop
  refine ⟨hret, ?_, .of_mem_eq (s.pop16_mem)⟩
  rw [hret, s.stackTop_frame]

end State

/-- Settles O58: the calls and restarts that are taken are `call`, a push of the next address and a jump. -/
theorem callsAndRestarts : Obligations.CallsAndRestarts := by
  unfold Obligations.CallsAndRestarts
  intro s nn
  refine ⟨⟨_, rfl, s.call_pushes nn 3⟩, fun k => ⟨_, exec_ofRst k s, s.call_pushes _ 1⟩, fun cc holds hmem => ?_⟩
  obtain rfl := (s.mem_condTable_iff cc holds).mp hmem
  refine ⟨fun h => ⟨_, exec_ofCall cc nn s, ?_⟩, fun h => ?_⟩
  · rw [s.callIf_of_cond h]
    exact s.call_pushes nn 3
  · rw [exec_ofCall, s.callIf_of_not_cond h]
    rfl

/-- Settles O59: the returns that are taken are `ret`, and RETI is `ret` with the interrupts enabled. -/
theorem returns : Obligations.Returns := by
  unfold Obligations.Returns
  intro s
  refine ⟨⟨_, rfl, s.ret_pops⟩, ⟨s.ret, congrArg Host.Outcome.next s.returnFromInterrupt_spec, s.ret_pops⟩,
    fun cc holds hmem => ?_⟩
  obtain rfl := (s.mem_condTable_iff cc holds).mp hmem
  refine ⟨fun h => ⟨_, exec_ofRet cc s, ?_⟩, fun h => ?_⟩
  · rw [s.retIf_of_cond h]
    exact s.ret_pops
  · rw [exec_ofRet, s.retIf_of_not_cond h]
    rfl

/-- A RET after a push to RAM goes to the address that was pushed, with SP as before. -/
theorem PushesAndJumps.ret_eq {ret target : Word} {s t : State} (h : PushesAndJumps ret target s t) (hm : s.mem.wf = true)
    (h₁ : s.kindAt (s.sp - 1) = .ram) (h₂ : s.kindAt (s.sp - 2) = .ram) : t.ret = { s with mem := t.mem, pc := ret } := by
  have hpop := h.pop16_eq hm h₁ h₂
  have hframe := h.eq_of_ram h₁ h₂
  rw [State.ret, hpop, hframe]
  rfl

/-- Settles O60: a CALL pushes the address after it, and RET takes it back. -/
theorem callThenRetResumes : Obligations.CallThenRetResumes := by
  unfold Obligations.CallThenRetResumes
  intro s nn hm h₁ h₂
  exact ⟨_, _, rfl, rfl, (s.call_pushes nn 3).ret_eq hm h₁ h₂⟩

/-- Settles O22: the interrupt entry pushes `pc` to RAM, RETI is a RET that sets IME, and selecting the request changed no
register. -/
theorem interruptThenRetiResumes : Obligations.InterruptThenRetiResumes := by
  unfold Obligations.InterruptThenRetiResumes
  rintro s u w vector rfl hmode hime hselect hm h₁ h₂
  have hstep : step s = .next (w.takeInterrupt vector) := State.stepMode_of_interrupt hmode hime hselect
  obtain ⟨m, p, rfl⟩ : ∃ m p, w = { s.deliver with mem := m, platform := p } := ⟨_, _, State.intSelect_sameCpu hselect⟩
  have hret := (State.takeInterrupt_pushes { s.deliver with mem := m, platform := p } vector).ret_eq hm h₁ h₂
  refine ⟨_, _, hstep, rfl, ?_⟩
  rw [State.returnFromInterrupt_spec, hret]
  exact ⟨rfl, rfl, rfl⟩

end Sys2Proof.Machine
end

section
/-! The two interrupt sources of the model (60_exceptions.md R222, R223): the external one, a list of requests, and the
informative one, whose requests are the bits 4 to 0 of two stored bytes (entries 5, 7, 27). -/

namespace Sys2Proof.Machine

/-! ## The external source -/

theorem State.intSelect_external {s : State} (h : s.params.intSource = .external) :
    s.intSelect = s.platform.requests.head?.map fun v =>
      (v, { s with platform := { s.platform with requests := s.platform.requests.tail } }) := by
  unfold State.intSelect
  rw [h]
  cases s.platform.requests <;> rfl

/-- Settles O24: what is selected is the head of the list of requests, and the tail is left. -/
theorem externalSourceServesInOrder : Obligations.ExternalSourceServesInOrder := by
  unfold Obligations.ExternalSourceServesInOrder
  intro s hsource
  have hselect := State.intSelect_external hsource
  refine ⟨?_, fun v vs hreq => by rw [hselect, hreq]; rfl⟩
  simp [State.intPending, hselect]

/-! ## The lowest request -/

/-- The search fails when every bit it looks at is clear. -/
theorem lowestRequest_eq_none_iff (v : Byte) {fuel : Nat} (hf : fuel ≤ 5) :
    lowestRequest v fuel = none ↔ ∀ j, 5 - fuel ≤ j → j < 5 → v.getLsbD j = false := by
  induction fuel with
  | zero => exact ⟨fun _ j hlow hj => by omega, fun _ => rfl⟩
  | succ n ih =>
    have hfirst : 5 - (n + 1) = 4 - n := by omega
    rw [lowestRequest, hfirst]
    by_cases hbit : v.getLsbD (4 - n) = true
    · rw [if_pos hbit]
      refine ⟨fun h => (by cases h), fun h => ?_⟩
      rw [h (4 - n) le_rfl (by omega)] at hbit
      cases hbit
    · rw [if_neg hbit, ih (by omega)]
      refine ⟨fun h j hlow hj => ?_, fun h j hlow hj => h j (by omega) hj⟩
      by_cases hj' : j = 4 - n
      · rw [hj']; simpa using hbit
      · exact h j (by omega) hj

/-- The search ends at the first set bit. -/
theorem lowestRequest_eq_some {v : Byte} {fuel k : Nat} (hf : fuel ≤ 5) (h : lowestRequest v fuel = some k) :
    k < 5 ∧ v.getLsbD k = true ∧ ∀ j, 5 - fuel ≤ j → j < k → v.getLsbD j = false := by
  induction fuel with
  | zero => cases h
  | succ n ih =>
    unfold lowestRequest at h
    split at h
    · next hbit =>
      cases h
      exact ⟨by omega, hbit, fun j hlow hj => by omega⟩
    · next hbit =>
      obtain ⟨hk, hset, hbelow⟩ := ih (by omega) h
      refine ⟨hk, hset, fun j hlow hj => ?_⟩
      by_cases hj' : j = 4 - n
      · rw [hj']; simpa using hbit
      · exact hbelow j (by omega) hj

/-- A byte masked to its bits 4 to 0. -/
theorem and_lowFive_eq_zero_iff (v : Byte) : v &&& 0x1F = 0x00 ↔ ∀ j, j < 5 → v.getLsbD j = false := by
  have hbit (j : Nat) : (v &&& 0x1F).getLsbD j = (v.getLsbD j && decide (j < 5)) := by
    have hmask : (0x1F : Byte).getLsbD j = (decide (j < 8) && decide (j < 5)) := by
      rw [← Nat.testBit_two_pow_sub_one 5 j]
      exact BitVec.getLsbD_ofNat 8 (2 ^ 5 - 1) j
    rw [BitVec.getLsbD_and, hmask]
    grind
  constructor
  · intro h j hj
    have hj' := hbit j
    rw [h] at hj'
    simpa [hj] using hj'.symm
  · intro h
    refine BitVec.eq_of_getLsbD_eq fun j hj => ?_
    rw [hbit]
    by_cases hj' : j < 5
    · simp [h j hj']
    · simp [hj']

/-! ## The source of R223 -/

theorem State.poke_peek_same (s : State) (x : Word) (v : Byte) (h : s.mem.wf = true) : (s.poke x v).peek x = v :=
  Memory.read_write_same _ _ _ h

theorem State.poke_peek_other (s : State) (x y : Word) (v : Byte) (h : y ≠ x) : (s.poke x v).peek y = s.peek y :=
  Memory.read_write_other _ _ _ _ fun he => h (BitVec.eq_of_toNat_eq he)

theorem State.intSelect_gameBoy {s : State} (h : s.params.intSource = .gameBoy) :
    s.intSelect = (lowestRequest (s.peek ieAddr &&& s.peek ifAddr) 5).map fun i =>
      (BitVec.ofNat 16 (0x40 + 8 * i), s.poke ifAddr (s.peek ifAddr &&& BitVec.ofNat 8 (0xFF - 2 ^ i))) := by
  unfold State.intSelect
  rw [h]
  cases lowestRequest (s.peek ieAddr &&& s.peek ifAddr) 5 <;> rfl

/-- Serving request `k` resets bit `k` of IF, as RES would, and keeps the others. -/
theorem State.served_getLsbD (s : State) {k j : Nat} (hk : k < 8) (hwf : s.mem.wf = true) (hj : j < 8) :
    ((s.poke ifAddr (s.peek ifAddr &&& BitVec.ofNat 8 (0xFF - 2 ^ k))).peek ifAddr).getLsbD j =
      ((s.peek ifAddr).getLsbD j && decide (j ≠ k)) := by
  rw [s.poke_peek_same _ _ hwf, Bool.and_comm, decide_not]
  exact resBit_getLsbD ⟨k, hk⟩ (s.peek ifAddr) hj

/-- Settles O25: the search finds the lowest request, whose bit of IF is reset as RES would. -/
theorem gameBoySourceServesLowestBit : Obligations.GameBoySourceServesLowestBit := by
  unfold Obligations.GameBoySourceServesLowestBit
  intro s hsource
  have hselect := State.intSelect_gameBoy hsource
  refine ⟨?_, fun v w hwf h => ?_⟩
  · rw [State.intPending, hselect, Option.isSome_map, Option.isSome_eq_false_iff, Option.isNone_iff_eq_none,
      lowestRequest_eq_none_iff _ le_rfl, and_lowFive_eq_zero_iff]
    simp [ieAddr, ifAddr]
  · rw [hselect, Option.map_eq_some_iff] at h
    obtain ⟨k, hk, hvw⟩ := h
    obtain ⟨rfl, rfl⟩ := Prod.mk.inj hvw
    obtain ⟨hlt, hset, hbelow⟩ := lowestRequest_eq_some le_rfl hk
    refine ⟨⟨k, hlt⟩, hset, fun j hj => hbelow j (by omega) hj, rfl, fun j hj => ?_, rfl, fun x hx => ?_⟩
    · exact s.served_getLsbD (by omega) hwf hj
    · exact s.poke_peek_other ifAddr x _ hx

end Sys2Proof.Machine
end

section
/-! The one-byte rotates of A (45_rotates_shifts.md section 1), and the state after reset (10_state.md section 9). -/

namespace Sys2Proof.Machine

/-! ## RLCA, RLA, RRCA, RRA -/

/-- A rotate of A is the CB rotate of A but for Z and its length (R160 to R163). -/
theorem State.rotateA_eq (s : State) (op : RotAOp) :
    s.rotateA op = { s with
      a := (rotateBits (rotAShift op) s.a s.fC).1, fN := false, fH := false, fC := (rotateBits (rotAShift op) s.a s.fC).2
      pc := s.pc + 1, fZ := rotAZero s.params.rotAZ (rotateBits (rotAShift op) s.a s.fC).1 } := by
  rw [← shiftResult_eq_rotateBits]
  rfl

/-- The four rotates and the CB rotates they share their result with. -/
theorem exec_of_mem_rotates {i : Instr} {op : ShiftOp}
    (h : (i, op) ∈ [(Instr.rlca, ShiftOp.rlc), (.rla, .rl), (.rrca, .rrc), (.rra, .rr)]) :
    ∃ r : RotAOp, op = rotAShift r ∧ ∀ s, exec i s = .next (s.rotateA r) := by
  simp only [List.mem_cons, Prod.mk.injEq, List.not_mem_nil, or_false] at h
  obtain ⟨rfl, rfl⟩ | ⟨rfl, rfl⟩ | ⟨rfl, rfl⟩ | ⟨rfl, rfl⟩ := h
  · exact ⟨.rlca, rfl, fun _ => rfl⟩
  · exact ⟨.rla, rfl, fun _ => rfl⟩
  · exact ⟨.rrca, rfl, fun _ => rfl⟩
  · exact ⟨.rra, rfl, fun _ => rfl⟩

/-- Settles O54: each is `rotateA`, whose Z is what the parameter `ROT_A_Z` says. -/
theorem rotatesOfA : Obligations.RotatesOfA := by
  unfold Obligations.RotatesOfA
  intro s i op hmem w
  obtain ⟨r, rfl, hexec⟩ := exec_of_mem_rotates hmem
  rw [hexec, s.rotateA_eq r]
  rfl

/-! ## Reset -/

/-- Settles O1: the fields of `State.reset`; nothing is listed in its memory. -/
theorem resetState : Obligations.ResetState := by
  unfold Obligations.ResetState
  exact ⟨rfl, rfl, rfl, rfl, rfl, rfl, rfl, rfl, rfl, rfl, fun _ => rfl, rfl, rfl⟩

/-- Settles O2: the empty memory, no platform cell and no window are in their canonical forms. -/
theorem resetMeetsTheInvariants : Obligations.ResetMeetsTheInvariants := by
  unfold Obligations.ResetMeetsTheInvariants
  exact ⟨rfl, rfl, rfl⟩

end Sys2Proof.Machine
end
